-- ==== Sys2Proof/Word.lean ====
section
/-! DEFINITION. The byte a link carries, and the three index types of the part: lanes, segment slots and stock profiles. -/

namespace Sys2Proof

/-- A byte as a serial link or a gate input carries it. -/
abbrev Byte := BitVec 8

/-- A transport position: "Lanes are numbered 0 to 3" (00_scope.md). -/
abbrev Lane := Fin 4

/-- The slot number of a segment record, 0 to 159 (01, introduction). -/
abbrev Slot := Fin 160

/-- The number of a stock profile record, 0 to 15 (R36). -/
abbrev ProfileNo := Fin 16

end Sys2Proof
end

