-- ==== Sys2Proof/Config.lean ====
section
/-! DEFINITION. The capacities and range ends the spec fixes (00_scope.md "Capacities and Ranges"). The spec calls no value of this part undefined, so there is no free value here. -/

namespace Sys2Proof.Config

/-- The last frame number of the frame range (R58). -/
abbrev frameMax : Nat := 1048575

/-- The last film position of the position range, in micrometres (R42, R58). -/
abbrev positionMax : Nat := 2147483647

/-- The lower end of a pitch, in 0.1 micrometre (R67). -/
abbrev pitchMin : Nat := 20000

/-- The upper end of a pitch, in 0.1 micrometre (R67). -/
abbrev pitchMax : Nat := 80000

/-- The most segments one reel may hold (R2, R22). -/
abbrev chainMax : Nat := 64

/-- The most entries of the Deferred Set (R138). -/
abbrev deferredMax : Nat := 12

/-- The most reservations, so the most queued answers (R134, R146). -/
abbrev reservationMax : Nat := 16

/-- The most entries of an Answer Layout (R149). -/
abbrev layoutMax : Nat := 12

/-- The most summaries of an accumulator (R13). -/
abbrev summariesMax : Nat := 64

/-- The count at which perforation, coast and span counts saturate (R11, R12, R77). -/
abbrev countMax : Nat := 65535

/-- The revision after which counting goes on from 1 (R18). -/
abbrev revisionMax : Nat := 4294967295

/-- The greatest lease length and remaining count, in seconds (R129, R177). -/
abbrev leaseMax : Nat := 255

/-- How far past the tail a candidate's frame still merges (R80). -/
abbrev mergeDistance : Nat := 8

/-- The span count at which an EVALUATING head resolves (R85). -/
abbrev resolveSpan : Nat := 8

/-- The least summaries from which a grade is computed (R21). -/
abbrev gradeSummaries : Nat := 4

/-- The spread below which a channel is degenerate (R106). -/
abbrev spreadMin : Int := 64

/-- The longest payload of a control or grading request (R173). -/
abbrev payloadMax : Nat := 96

/-- The lane or slot value that names ALL (11.7, "Value encodings"). -/
abbrev allCode : Nat := 255

end Sys2Proof.Config
end

