-- ==== Sys2Proof/Syntax.lean ====
section
/-! DEFINITION. The commands of the part: one constructor of Instr per row of spec/opcode_table.json, with the operands the row's rule gives it. -/

namespace Sys2Proof

/-- One value for each colour channel. -/
structure Rgb (α : Type) where
  r : α
  g : α
  b : α
  deriving DecidableEq, Repr

/-- The two links that carry requests and replies of the same frame format (R171). -/
inductive PortName where
  | control
  | grading
  deriving DecidableEq, Repr

/-- The byte order of a link (R176). -/
inductive ByteOrder where
  | msFirst
  | lsFirst
  deriving DecidableEq, Repr

/-- What a control or grading transaction met between its chip select falling and rising (R172, R174, R178); log entry 3. -/
inductive Opening where
  /-- READY was active when chip select fell. -/
  | ready
  /-- READY was inactive when chip select fell: a BUSY transaction (R174). -/
  | busy
  /-- RESET_PART was taken while this grading-link transaction was in progress (R178). -/
  | resetPart
  /-- The RESET line was active at some moment while the transaction was in progress (R178). -/
  | resetLine
  deriving DecidableEq, Repr

/-- What a lookup-link transaction met between its chip select falling and rising (R147, R150, R178); log entry 3. -/
inductive LookupOpening where
  /-- Nothing that bears on it: the head answer, or the EMPTY marker, was shifted out as the queue stands. -/
  | plain
  /-- The Answer Queue was empty when the answer part began, so the EMPTY marker was shifted out; an answer may have joined since. -/
  | emptyMarker
  /-- The byte order was rewritten after chip select fell, so the transaction still ran in the other order; the link was disabled and its queue empty when it began, so the EMPTY marker was shifted out (R150). -/
  | otherOrder
  /-- The link was disabled, or the part reset, while the transaction was in progress (R150, R178). -/
  | overtaken
  /-- The RESET line was active at some moment while the transaction was in progress (R178). -/
  | resetLine
  deriving DecidableEq, Repr

/-- The sixteen fields of SET_PROFILE as sent, with the given marks of fields 7, 10 and 11 (R36, R37, 11.7). -/
structure ProfileFields where
  gauge : Nat
  nominalPitch : Nat
  pitchTolerance : Nat
  captureWindow : Nat
  minStrength : Nat
  coastLimit : Nat
  windowMark : Nat
  windowSize : Nat
  driftLimit : Nat
  densityThreshold : Nat
  blackMark : Nat
  targetBlack : Nat
  whiteMark : Nat
  targetWhite : Nat
  fade : Nat
  defaultLamp : Nat
  travelOffset : Int
  lateralOffset : Int
  cadence : Nat
  deriving DecidableEq, Repr

/-- The commands. Operands of a request are the field values its frame carries (11.7), in range or not. -/
inductive Instr where
  /-- POWER_ON (R5): power is applied. -/
  | powerOn
  /-- RESET_LINE (R178): the RESET line is asserted and released, as the row says, or, with `held`, asserted and still active (log entry 19). -/
  | resetLine (held : Bool := false)
  /-- LINK_TRANSACTION (R172): chip select rises on the control or grading link; `bytes` were shifted in and as many out. -/
  | linkTransaction (link : PortName) (opening : Opening) (bytes : List Byte)
  /-- LOAD_REEL (R28). -/
  | loadReel (lane tag gauge profile cadence : Nat)
  /-- START (R29). -/
  | start (lane : Nat)
  /-- PAUSE (R30). -/
  | pause (lane : Nat)
  /-- RESUME (R31). -/
  | resume (lane : Nat)
  /-- UNLOAD (R32, R152). -/
  | unload (lane : Nat)
  /-- LANE_RESET (R33). -/
  | laneReset (lane : Nat)
  /-- SET_PROFILE (R37). -/
  | setProfile (number : Nat) (fields : ProfileFields)
  /-- INVALIDATE_PROFILE (R38). -/
  | invalidateProfile (number : Nat)
  /-- READ_PROFILE (R39). -/
  | readProfile (number : Nat)
  /-- SET_LAYOUT (R149); the count byte is the list's length. -/
  | setLayout (codes : List Nat)
  /-- SET_LOOKUP_LINK (R150). -/
  | setLookupLink (enable order : Nat)
  /-- SET_POLICY (R166); lane 255 names ALL. -/
  | setPolicy (lane kind enable route hold : Nat)
  /-- SET_TIMERS (R177). -/
  | setTimers (tick limit lease : Nat)
  /-- FORCE_RELEASE (R131); slot 255 names ALL. -/
  | forceRelease (slot : Nat)
  /-- READ_LANE (R40). -/
  | readLane (lane : Nat)
  /-- RESET_PART (R178). -/
  | resetPart
  /-- TAKE (R117, R118). -/
  | take (slot : Nat)
  /-- RELEASE (R120). -/
  | release (slot : Nat)
  /-- SET_GRADE (R121); fade 255 is absent. -/
  | setGrade (slot : Nat) (lift : Rgb Int) (gain : Rgb Nat) (fade : Nat)
  /-- SET_OFFSET (R122). -/
  | setOffset (slot : Nat) (travel lateral : Int)
  /-- SET_LAMP (R122). -/
  | setLamp (slot lamp : Nat)
  /-- SET_CADENCE (R122). -/
  | setCadence (slot cadence : Nat)
  /-- CUT (R124, R125). -/
  | cut (slot frame : Nat)
  /-- JOIN (R127, R128). -/
  | join (slot : Nat)
  /-- RENEW (R129). -/
  | renew
  /-- REGRADE (R108), on either link. -/
  | regrade (link : PortName) (slot : Nat)
  /-- READ_SEGMENT (R25), on either link. -/
  | readSegment (link : PortName) (slot : Nat)
  /-- LIST_REEL (R24), on either link. -/
  | listReel (link : PortName) (lane position : Nat)
  /-- READ_NOTICES (R164), on either link. -/
  | readNotices (link : PortName) (lane : Nat)
  /-- CLEAR_NOTICE (R165), on either link; lane 255 names ALL. -/
  | clearNotice (link : PortName) (lane mask : Nat)
  /-- SET_LINK (R176), on the link whose byte order it writes. -/
  | setLink (link : PortName) (order : Nat)
  /-- LOOKUP_LINK_TRANSACTION (R147): chip select rises on the lookup link. -/
  | lookupLinkTransaction (opening : LookupOpening) (bytes : List Byte)
  /-- LOOKUP (R135, R136). -/
  | lookup (tag lane frame : Nat)
  /-- SUMMARY (R99, R100). -/
  | summary (lane frame : Nat) (black white mean : Rgb Nat)
  /-- PERF (R47): a perforation gate word; `strength` is its byte 1. -/
  | perf (lane : Lane) (position strength : Nat)
  /-- SPLICE (R50): a splice gate word; `kind` is its byte 1. -/
  | splice (lane : Lane) (position kind : Nat)
  /-- TRAVEL (R48): a travel gate word. -/
  | travel (lane : Lane) (position : Nat)
  /-- RUNOUT (R59): a runout gate word. -/
  | runout (lane : Lane) (position : Nat)
  /-- MALFORMED_GATE_WORD (R42): a gate word given by its raw bytes. -/
  | malformedGateWord (lane : Lane) (bytes : List Byte)
  /-- GRADE_COMPLETION (R107): the engine's computation ends. -/
  | gradeCompletion
  /-- DEFERRAL_TICK (R141). -/
  | deferralTick
  /-- DEFERRAL_EXPIRY (R142). -/
  | deferralExpiry
  /-- LEASE_TICK (R129). -/
  | leaseTick
  /-- LEASE_EXPIRY (R130). -/
  | leaseExpiry
  deriving DecidableEq, Repr

end Sys2Proof
end

