-- ==== Sys2Proof/WellFormed.lean ====
section
/-! DEFINITION. What a command can be: each operand fits the field its frame or gate word gives it (11.7). A value outside the range its rule names, but inside the field, is well formed: the rule refuses it. -/

namespace Sys2Proof

/-- A one-byte field (11.7). -/
def fitsByte (n : Nat) : Bool := decide (n < 256)

/-- A two-byte unsigned field. -/
def fitsTwo (n : Nat) : Bool := decide (n < 65536)

/-- A three-byte unsigned field. -/
def fitsThree (n : Nat) : Bool := decide (n < 16777216)

/-- A four-byte unsigned field. -/
def fitsFour (n : Nat) : Bool := decide (n < 4294967296)

/-- A two-byte signed field, two's complement. -/
def fitsSigned (x : Int) : Bool := decide (-32768 ≤ x) && decide (x < 32768)

/-- The same check on the three channels. -/
def Rgb.all {α : Type} (p : α → Bool) (c : Rgb α) : Bool := p c.r && p c.g && p c.b

/-- The sizes of the SET_PROFILE payload table (11.7). -/
def ProfileFields.wellFormed (f : ProfileFields) : Bool :=
  fitsByte f.gauge && fitsThree f.nominalPitch && fitsByte f.pitchTolerance && fitsByte f.captureWindow &&
  fitsByte f.minStrength && fitsByte f.coastLimit && fitsByte f.windowMark && fitsByte f.windowSize &&
  fitsTwo f.driftLimit && fitsTwo f.densityThreshold && fitsByte f.blackMark && fitsTwo f.targetBlack &&
  fitsByte f.whiteMark && fitsTwo f.targetWhite && fitsByte f.fade && fitsTwo f.defaultLamp &&
  fitsSigned f.travelOffset && fitsSigned f.lateralOffset && fitsByte f.cadence

/-- Every operand fits its field. A SET_LAYOUT payload of a count and its codes is at most 96 bytes (R173). -/
def Instr.wellFormed : Instr → Bool
  | .powerOn => true
  | .resetLine _ => true
  | .linkTransaction link opening _ => decide (link = .grading) || decide (opening ≠ .resetPart)
  | .loadReel lane tag gauge profile cadence =>
    fitsByte lane && fitsFour tag && fitsByte gauge && fitsByte profile && fitsByte cadence
  | .start lane => fitsByte lane
  | .pause lane => fitsByte lane
  | .resume lane => fitsByte lane
  | .unload lane => fitsByte lane
  | .laneReset lane => fitsByte lane
  | .setProfile number fields => fitsByte number && fields.wellFormed
  | .invalidateProfile number => fitsByte number
  | .readProfile number => fitsByte number
  | .setLayout codes => decide (codes.length < Config.payloadMax) && codes.all fitsByte
  | .setLookupLink enable order => fitsByte enable && fitsByte order
  | .setPolicy lane kind enable route hold =>
    fitsByte lane && fitsByte kind && fitsByte enable && fitsByte route && fitsByte hold
  | .setTimers tick limit lease => fitsByte tick && fitsByte limit && fitsByte lease
  | .forceRelease slot => fitsByte slot
  | .readLane lane => fitsByte lane
  | .resetPart => true
  | .take slot => fitsByte slot
  | .release slot => fitsByte slot
  | .setGrade slot lift gain fade => fitsByte slot && lift.all fitsSigned && gain.all fitsTwo && fitsByte fade
  | .setOffset slot along across => fitsByte slot && fitsSigned along && fitsSigned across
  | .setLamp slot lamp => fitsByte slot && fitsTwo lamp
  | .setCadence slot cadence => fitsByte slot && fitsByte cadence
  | .cut slot frame => fitsByte slot && fitsThree frame
  | .join slot => fitsByte slot
  | .renew => true
  | .regrade _ slot => fitsByte slot
  | .readSegment _ slot => fitsByte slot
  | .listReel _ lane position => fitsByte lane && fitsByte position
  | .readNotices _ lane => fitsByte lane
  | .clearNotice _ lane mask => fitsByte lane && fitsThree mask
  | .setLink _ order => fitsByte order
  | .lookupLinkTransaction _ _ => true
  | .lookup tag lane frame => fitsTwo tag && fitsByte lane && fitsThree frame
  | .summary lane frame black white mean =>
    fitsByte lane && fitsThree frame && black.all fitsTwo && white.all fitsTwo && mean.all fitsTwo
  | .perf _ position strength => fitsFour position && fitsByte strength
  | .splice _ position kind => fitsFour position && fitsByte kind
  | .travel _ position => fitsFour position
  | .runout _ position => fitsFour position
  | .malformedGateWord _ bytes => decide (bytes.length ≤ 6)
  | .gradeCompletion => true
  | .deferralTick => true
  | .deferralExpiry => true
  | .leaseTick => true
  | .leaseExpiry => true

end Sys2Proof
end

