-- ==== Sys2Proof/Decode.lean ====
section
/-! DEFINITION. The command that a word of spec/opcode_table.json's bits spells. No row of the table gives bits, so no word spells one. The frames and gate words of 11.7 are read in Machine/Operands.lean. -/

namespace Sys2Proof

/-- The table's rows carry neither "fixed" nor "fields": none for every word (log entry 25). -/
def decodeTableWord (_nbits _w : Nat) : Option Instr := none

end Sys2Proof
end

