-- ==== Sys2Proof/Machine/State.lean ====
section
/-! DEFINITION. Everything the spec gives the part to hold, as plain data, and its value after power-on. -/

namespace Sys2Proof.Machine

/-! ### Stock profiles and reels (chapter 2) -/

/-- The film formats (R28, R36); codes 0 to 3 of 11.7. -/
inductive Gauge where
  | mm8
  | super8
  | mm9_5
  | mm16
  deriving DecidableEq, Repr

/-- A stock profile record: the valid mark and the sixteen fields of R36. -/
structure Profile where
  valid : Bool
  gauge : Gauge
  nominalPitch : Nat
  pitchTolerance : Nat
  captureWindow : Nat
  minStrength : Nat
  coastLimit : Nat
  windowSize : Nat
  driftLimit : Nat
  densityThreshold : Nat
  targetBlack : Nat
  targetWhite : Nat
  fade : Option Nat
  defaultLamp : Nat
  travelOffset : Int
  lateralOffset : Int
  cadence : Nat
  deriving DecidableEq, Repr

/-- A profile after power-on (R36): invalid, gauge 8MM, fields 7, 10 and 11 at their defaults, field 12 absent, every other field 0. -/
def Profile.powerOn : Profile :=
  { valid := false, gauge := .mm8, nominalPitch := 0, pitchTolerance := 0, captureWindow := 0, minStrength := 0,
    coastLimit := 0, windowSize := 12, driftLimit := 0, densityThreshold := 0, targetBlack := 256, targetWhite := 3840,
    fade := none, defaultLamp := 0, travelOffset := 0, lateralOffset := 0, cadence := 0 }

/-- The reel states (R27). -/
inductive ReelState where
  | empty
  | loaded
  | scanning
  | paused
  | ended
  | closing
  deriving DecidableEq, Repr

/-- The fields LOAD_REEL writes; all four are absent together in EMPTY (R26). -/
structure ReelLoad where
  tag : Nat
  gauge : Gauge
  profile : ProfileNo
  cadence : Nat
  deriving DecidableEq, Repr

/-- A lane's reel record (R26); its chain is head first (R22). -/
structure Reel where
  state : ReelState
  load : Option ReelLoad
  chain : List Slot
  deriving DecidableEq, Repr

/-! ### Trackers (chapter 3) and measure points (chapter 4) -/

/-- The tracker states (R41). -/
inductive TrackerState where
  | idle
  | threading
  | locked
  | coasting
  | lost
  | paused
  | relocking
  | ended
  deriving DecidableEq, Repr

/-- The drift run while its count is above 0: the count and the first perforation of the run (R41, R63). -/
structure DriftRun where
  count : Nat
  frame : Nat
  position : Int
  deriving DecidableEq, Repr

/-- The tracker record of R41. An absent drift run or pitch-watch run is a count of 0. -/
structure Tracker where
  state : TrackerState
  current : Option Nat
  lastPosition : Option Int
  deadline : Option Int
  coastRun : Nat
  drift : Option DriftRun
  pitchRun : Option Nat
  relock : List Int
  deriving DecidableEq, Repr

/-- The tracker after power-on (R41). -/
def Tracker.reset : Tracker :=
  { state := .idle, current := none, lastPosition := none, deadline := none, coastRun := 0, drift := none,
    pitchRun := none, relock := [] }

/-- A measure point: a frame and the position at which it was taken from a perforation (R64). -/
structure MeasurePoint where
  frame : Nat
  position : Int
  deriving DecidableEq, Repr

/-! ### Accumulators and candidates (chapters 1 and 5) -/

/-- A count of summaries and the nine sums (R13). -/
structure Accum where
  count : Nat
  black : Rgb Nat
  white : Rgb Nat
  mean : Rgb Nat
  deriving DecidableEq, Repr

/-- The empty accumulator. -/
def Accum.zero : Accum := { count := 0, black := ⟨0, 0, 0⟩, white := ⟨0, 0, 0⟩, mean := ⟨0, 0, 0⟩ }

/-- The candidate kinds (R77). -/
inductive CandidateKind where
  | spliceTape
  | spliceCement
  | pitchStep
  | densityStep
  | drift
  | gap
  deriving DecidableEq, Repr

/-- The candidate states (R77). -/
inductive CandidateState where
  | armed
  | evaluating
  deriving DecidableEq, Repr

/-- The evidence flags of a candidate (R77). -/
structure Evidence where
  sensor : Bool
  pitch : Bool
  density : Bool
  drift : Bool
  deriving DecidableEq, Repr

/-- A Candidate Queue entry (R77). -/
structure Candidate where
  frame : Nat
  position : Int
  kind : CandidateKind
  state : CandidateState
  span : Nat
  acc : Accum
  evidence : Evidence
  deriving DecidableEq, Repr

/-! ### Segment records (chapter 1) -/

/-- The cause that opened a segment (R8). -/
inductive Origin where
  | start
  | spliceTape
  | spliceCement
  | pitchStep
  | densityStep
  | drift
  | gap
  | operatorCut
  deriving DecidableEq, Repr

/-- The phases (R9). -/
inductive Phase where
  | measuring
  | computing
  | settled
  | regrading
  deriving DecidableEq, Repr

/-- Where the grade in force came from (R15). -/
inductive GradeSource where
  | inherited
  | computed
  | defaulted
  | console
  | profile
  deriving DecidableEq, Repr

/-- Who writes the grade (R16). -/
inductive Owner where
  | auto
  | console
  deriving DecidableEq, Repr

/-- The life of a record that is not FREE (R1); a FREE record is held as no record at all. -/
inductive Life where
  | live
  | retiring
  deriving DecidableEq, Repr

/-- A segment record that is not FREE, with the fields of section 1.1. -/
structure Segment where
  lane : Lane
  life : Life
  revision : Nat
  first : Nat
  last : Option Nat
  origin : Origin
  phase : Phase
  anchorFrame : Nat
  anchorPosition : Int
  pitch : Nat
  perforations : Nat
  coasts : Nat
  travelOffset : Int
  lateralOffset : Int
  lift : Rgb Int
  gain : Rgb Nat
  fade : Option Nat
  lamp : Nat
  cadence : Nat
  source : GradeSource
  luminance : Option Nat
  acc : Accum
  owner : Owner
  takePending : Bool
  profile : ProfileNo
  deriving DecidableEq, Repr

/-- The answered fields of a segment, flags included (R17): a change of any of them is a change of revision (R18). -/
structure Answered where
  first : Nat
  last : Option Nat
  anchorFrame : Nat
  anchorPosition : Int
  pitch : Nat
  travelOffset : Int
  lateralOffset : Int
  lift : Rgb Int
  gain : Rgb Nat
  fade : Option Nat
  lamp : Nat
  cadence : Nat
  flags : Nat
  deriving DecidableEq, Repr

/-- Which row of R21 a settle takes. -/
inductive SettleRow where
  /-- Owner AUTO, source not CONSOLE, 4 summaries or more: COMPUTING. -/
  | compute
  /-- Owner AUTO, source not CONSOLE, fewer: SETTLED with the default grade. -/
  | default
  /-- Owner CONSOLE or source CONSOLE: SETTLED with the grade kept. -/
  | keep
  deriving DecidableEq, Repr

/-- The three results of finding a frame in a chain (R23). -/
inductive FindResult where
  | found (slot : Slot) (record : Segment)
  | past
  | absent
  deriving DecidableEq, Repr

/-- The outcome of one perforation in a three-perforation test (R43). -/
inductive TestStep where
  | progress (held : List Int)
  | success (a b c : Int)
  deriving DecidableEq, Repr

/-! ### Notices (chapter 10) -/

/-- The eleven lane kinds, in the order of their kind numbers 0 to 10 (10.1). -/
inductive LaneKind where
  | lockAcquired
  | laneLost
  | laneRelocked
  | runout
  | travelRange
  | transportFault
  | splitMade
  | tableFull
  | gradeDefaulted
  | segmentSettled
  | reelRetired
  deriving DecidableEq, Repr

/-- The kind number of a lane kind. -/
def LaneKind.index : LaneKind → Fin 11
  | .lockAcquired => 0
  | .laneLost => 1
  | .laneRelocked => 2
  | .runout => 3
  | .travelRange => 4
  | .transportFault => 5
  | .splitMade => 6
  | .tableFull => 7
  | .gradeDefaulted => 8
  | .segmentSettled => 9
  | .reelRetired => 10

/-- The five part-wide kinds, in the order of their kind numbers 11 to 15 (10.1). -/
inductive PartKind where
  | handback
  | takeGranted
  | leaseExpired
  | forcedRelease
  | provisionalIssued
  deriving DecidableEq, Repr

/-- The kind number of a part-wide kind, less 11. -/
def PartKind.index : PartKind → Fin 5
  | .handback => 0
  | .takeGranted => 1
  | .leaseExpired => 2
  | .forcedRelease => 3
  | .provisionalIssued => 4

/-- What a kind number names (section 10.1). -/
inductive KindName where
  | laneKind (k : Fin 11)
  | partKind (k : Fin 5)
  deriving DecidableEq, Repr

/-- A notice flag and its latest-slot value (R162). -/
structure NoticeFlag where
  raised : Bool
  latest : Option Slot
  deriving DecidableEq, Repr

/-- The attention lines a kind is routed to (R166). -/
inductive Route where
  | control
  | grading
  | both
  deriving DecidableEq, Repr

/-- The policy of a kind (R166); `hold` stays no for a part-wide kind. -/
structure Policy where
  enable : Bool
  route : Route
  hold : Bool
  deriving DecidableEq, Repr

/-- The default policy of a lane kind (R166): LANE_LOST and TABLE_FULL enabled and holding, REEL_RETIRED enabled, the rest off. -/
def Policy.laneDefault (k : Fin 11) : Policy :=
  if k = LaneKind.laneLost.index ∨ k = LaneKind.tableFull.index then { enable := true, route := .control, hold := true }
  else if k = LaneKind.reelRetired.index then { enable := true, route := .control, hold := false }
  else { enable := false, route := .control, hold := false }

/-- The default policy of a part-wide kind (R166). -/
def Policy.partDefault (k : Fin 5) : Policy :=
  if k = PartKind.handback.index ∨ k = PartKind.leaseExpired.index then
    { enable := true, route := .control, hold := false }
  else if k = PartKind.takeGranted.index ∨ k = PartKind.forcedRelease.index then
    { enable := true, route := .grading, hold := false }
  else { enable := false, route := .control, hold := false }

/-! ### One lane -/

/-- What the part holds for one lane. -/
structure LaneState where
  reel : Reel
  tracker : Tracker
  measure : Option MeasurePoint
  queue : List Candidate
  duty : Nat
  notices : Vector NoticeFlag 11
  policies : Vector Policy 11
  deriving DecidableEq, Repr

/-- A lane after power-on (R26, R41, R64, R78, R163, R166, R169). -/
def LaneState.reset : LaneState :=
  { reel := { state := .empty, load := none, chain := [] }
    tracker := Tracker.reset
    measure := none
    queue := []
    duty := 0
    notices := Vector.replicate 11 { raised := false, latest := none }
    policies := Vector.ofFn Policy.laneDefault }

/-! ### The lookup unit (chapter 8) -/

/-- The field codes of an Answer Layout, in the order of their codes 0 to 16 (11.7). -/
inductive FieldCode where
  | none
  | segment
  | revisionHigh
  | revisionLow
  | positionHigh
  | positionLow
  | lateral
  | liftR
  | liftG
  | liftB
  | gainR
  | gainG
  | gainB
  | fade
  | lamp
  | cadence
  | flags
  deriving DecidableEq, Repr

/-- The link status values (11.7). -/
inductive LinkStatus where
  | none
  | accepted
  | refusedFull
  | refusedAhead
  | noReel
  | outOfRange
  | badFrame
  | disabled
  deriving DecidableEq, Repr

/-- The answer statuses (11.7). EMPTY, code 0, is the marker's alone. -/
inductive AnswerStatus where
  | settled
  | provisional
  | noReel
  | closed
  | outOfRange
  | busy
  deriving DecidableEq, Repr

/-- A queued answer: its header and its slot values of 16 bits (R148). -/
structure Answer where
  tag : Nat
  status : AnswerStatus
  lane : Lane
  frame : Nat
  slots : List Nat
  deriving DecidableEq, Repr

/-- Why a lookup waits; a SEGMENT reason names the awaited slot (R138). -/
inductive DeferReason where
  | ahead
  | candidate
  | segment (awaited : Slot)
  deriving DecidableEq, Repr

/-- A Deferred Set entry (R138). -/
structure Deferral where
  tag : Nat
  lane : Lane
  frame : Nat
  reason : DeferReason
  remaining : Nat
  deriving DecidableEq, Repr

/-- The classification of a lookup (R136). -/
inductive Verdict where
  | plain (status : AnswerStatus)
  | source (slot : Slot) (record : Segment)
  | defer (reason : DeferReason)
  deriving DecidableEq, Repr

/-- What an event does with one Deferred Set entry (R139, R144). -/
inductive Disposal where
  | keep (entry : Deferral)
  | answer (made : Answer)
  deriving DecidableEq, Repr

/-- The state of the lookup unit (R133); entries and answers are oldest first. `shifted` is what the last transaction shifted out (the model's own record of an output, log entry 5). -/
structure LookupUnit where
  enabled : Bool
  order : ByteOrder
  layout : List FieldCode
  deferred : List Deferral
  answers : List Answer
  status : LinkStatus
  shifted : List Byte
  deriving DecidableEq, Repr

/-- The default Answer Layout (R148). -/
def LookupUnit.defaultLayout : List FieldCode :=
  [.segment, .revisionLow, .positionHigh, .positionLow, .lateral, .liftR, .liftG, .liftB, .gainR, .gainG, .gainB, .flags]

/-- The lookup unit after power-on (R133). -/
def LookupUnit.reset : LookupUnit :=
  { enabled := false, order := .msFirst, layout := LookupUnit.defaultLayout, deferred := [], answers := [],
    status := .none, shifted := [] }

/-- The periods of the deferral tick (R141, R177). -/
inductive TickSelect where
  | thirtySecond
  | eighth
  | half
  deriving DecidableEq, Repr

/-! ### The control and grading links (chapter 11) -/

/-- The reply statuses, codes 0 to 7 (11.7). -/
inductive ReplyStatus where
  | ok
  | acceptedPending
  | refused
  | badFrame
  | notPermitted
  | busy
  | noReply
  | resetDone
  deriving DecidableEq, Repr

/-- The reason codes 0 to 20 (11.7). -/
inductive Reason where
  | none
  | badLane
  | notEmpty
  | badValue
  | profileInvalid
  | gaugeMismatch
  | noReel
  | closing
  | wrongState
  | badProfile
  | inUse
  | badSlot
  | notLive
  | already
  | notOwner
  | busy
  | badFrameNumber
  | noSpace
  | noSuccessor
  | ownerDiffers
  | linkEnabled
  deriving DecidableEq, Repr

/-- A field of a reply: its size in bytes and its value. The link's byte order is applied when the reply is shifted out (R176). -/
structure WireField where
  size : Nat
  value : Int
  deriving DecidableEq, Repr

/-- A reply frame in a slot, with its IGNORED_REQUEST mark (R171). -/
structure Reply where
  status : ReplyStatus
  reason : Reason
  payload : List WireField
  ignored : Bool
  deriving DecidableEq, Repr

/-- The RESET_DONE reply (R171). 11.7 gives reason 0 and no payload for BUSY, NO_REPLY, BAD_FRAME and NOT_PERMITTED only; that RESET_DONE has them too is the model's choice (log entry 33). -/
def Reply.resetDone : Reply := { status := .resetDone, reason := .none, payload := [], ignored := false }

/-- The state of the control or grading link (R171). `dispatched` is the request handed to its block and not yet answered; READY is inactive while there is one (R174, log entry 22). `shifted` is what the last transaction shifted out (log entry 5). -/
structure Link where
  slot : Option Reply
  dispatched : Option Instr
  order : ByteOrder
  shifted : List Byte
  deriving DecidableEq, Repr

/-- A link after power-on (R171). -/
def Link.reset : Link := { slot := some Reply.resetDone, dispatched := none, order := .msFirst, shifted := [] }

/-- What the checks of R173 make of a request frame. -/
inductive RequestCheck where
  | badFrame
  | notPermitted
  | dispatch (request : Instr)
  deriving DecidableEq, Repr

/-- What a gate word's bytes spell (R42, 11.7). -/
inductive GateWord where
  | malformed
  | perf (position strength : Nat)
  | splice (position kind : Nat)
  | travel (position : Nat)
  | runout (position : Nat)
  deriving DecidableEq, Repr

/-! ### The part -/

/-- Everything the part holds. `lease` is none when STOPPED and the remaining count when RUNNING (R129). `resetHeld` is the RESET line's level while it is active (R178). `pending` is the queue of commands that wait, first in, first out. -/
structure State where
  lanes : Vector LaneState 4
  profiles : Vector Profile 16
  segments : Vector (Option Segment) 160
  freeList : List Slot
  computeQueue : List Slot
  engine : Option Slot
  lease : Option Nat
  leaseLength : Nat
  lookup : LookupUnit
  tick : TickSelect
  limit : Nat
  partNotices : Vector NoticeFlag 5
  partPolicies : Vector Policy 5
  control : Link
  grading : Link
  resetHeld : Bool
  pending : List Instr
  deriving DecidableEq, Repr

/-- The part after power-on, as R5, R26, R36, R41, R64, R78, R103, R104, R129, R133, R163, R166, R169, R171 and R177 give it. -/
def State.reset : State :=
  { lanes := Vector.replicate 4 LaneState.reset
    profiles := Vector.replicate 16 Profile.powerOn
    segments := Vector.replicate 160 none
    freeList := List.finRange 160
    computeQueue := []
    engine := none
    lease := none
    leaseLength := 60
    lookup := LookupUnit.reset
    tick := .thirtySecond
    limit := 16
    partNotices := Vector.replicate 5 { raised := false, latest := none }
    partPolicies := Vector.ofFn Policy.partDefault
    control := Link.reset
    grading := Link.reset
    resetHeld := false
    pending := [] }

/-- Why a step can end in a fault: no rule of the spec names a behaviour that stops the part, so there is no reason. -/
inductive Fault where
  deriving DecidableEq, Repr

/-- Why a step can end in a refusal. -/
inductive Refusal where
  /-- Raised by Dispatch for a command that has no meaning yet (safe: the model stops where the part goes on). No arm uses it. -/
  | notModelled (mnemonic : String)
  deriving DecidableEq, Repr

end Sys2Proof.Machine
end

