-- ==== Sys2Proof/Machine/Arith.lean ====
section
/-! DEFINITION. The arithmetic of 00_scope.md "Arithmetic": rounding, clamping and saturating on whole numbers. -/

namespace Sys2Proof.Machine

/-- `num / den` rounded to the nearest whole number, halves away from zero. -/
def roundDiv (num : Int) (den : Nat) : Int :=
  if 0 ≤ num then (2 * num + den) / (2 * den) else -((2 * -num + den) / (2 * den))

/-- `num / den` rounded to the nearest whole number, halves up (R54). -/
def roundHalfUp (num : Int) (den : Nat) : Int := (2 * num + den) / (2 * den)

/-- A value below the range becomes its lower end, one above its upper end. -/
def clampTo (lo hi x : Int) : Int := if x < lo then lo else if hi < x then hi else x

/-- The sum of two counts that saturate at 65,535 (R11, R12, R77). -/
def addSaturating (a b : Nat) : Nat := min Config.countMax (a + b)

/-- A pitch clamped to 20,000 to 80,000 (R67). -/
def clampPitch (x : Int) : Nat := (clampTo Config.pitchMin Config.pitchMax x).toNat

/-- The revision after an increment: 4,294,967,295 is followed by 1 (R18). -/
def nextRevision (r : Nat) : Nat := if r = Config.revisionMax then 1 else r + 1

/-- Two positions are consistent with pitch `p` and tolerance `t` (R43): |10 × (later − earlier) − p| × 1000 ≤ p × t. -/
def consistent (p t : Nat) (earlier later : Int) : Bool :=
  decide ((10 * (later - earlier) - p).natAbs * 1000 ≤ p * t)

end Sys2Proof.Machine

namespace Sys2Proof

/-- A function applied to each channel. -/
def Rgb.map {α β : Type} (f : α → β) (c : Rgb α) : Rgb β := ⟨f c.r, f c.g, f c.b⟩

/-- Two channel triples combined channel by channel. -/
def Rgb.zip {α β γ : Type} (f : α → β → γ) (c : Rgb α) (d : Rgb β) : Rgb γ := ⟨f c.r d.r, f c.g d.g, f c.b d.b⟩

/-- The sum of the three channels. -/
def Rgb.total (c : Rgb Nat) : Nat := c.r + c.g + c.b

end Sys2Proof
end

