-- ==== Sys2Proof/Machine/Operands.lean ====
section
/-! DEFINITION. Every byte layout of 11.7: the values of the coded fields, the fields of replies and answers as bytes in a link's byte order, the checks of a request frame, a lookup-link frame and a gate word. -/

namespace Sys2Proof.Machine

/-! ### Coded values -/

/-- Gauge codes (11.7, "Value encodings"). -/
def Gauge.code : Gauge → Nat
  | .mm8 => 0
  | .super8 => 1
  | .mm9_5 => 2
  | .mm16 => 3

/-- The gauge of a code, if it is one of the four. -/
def Gauge.ofCode : Nat → Option Gauge
  | 0 => some .mm8
  | 1 => some .super8
  | 2 => some .mm9_5
  | 3 => some .mm16
  | _ => none

/-- Byte order codes: MS-first is 0 and LS-first is 1. -/
def byteOrderOf : Nat → Option ByteOrder
  | 0 => some .msFirst
  | 1 => some .lsFirst
  | _ => none

/-- The order that is not this one. -/
def flipOrder : ByteOrder → ByteOrder
  | .msFirst => .lsFirst
  | .lsFirst => .msFirst

/-- no is 0 and yes is 1. -/
def yesNoOf : Nat → Option Bool
  | 0 => some false
  | 1 => some true
  | _ => none

/-- Route codes. -/
def Route.ofCode : Nat → Option Route
  | 0 => some .control
  | 1 => some .grading
  | 2 => some .both
  | _ => none

/-- Tick select codes (R177). -/
def TickSelect.ofCode : Nat → Option TickSelect
  | 0 => some .thirtySecond
  | 1 => some .eighth
  | 2 => some .half
  | _ => none

/-- A cadence is 0, 16, 18 or 24 frames per second. -/
def cadenceOk (n : Nat) : Bool := n == 0 || n == 16 || n == 18 || n == 24

/-- A fade curve is 0 to 15, or absent, carried as 255. -/
def fadeOf (n : Nat) : Option (Option Nat) := if n ≤ 15 then some (some n) else if n = 255 then some none else none

/-- A lane number is 0 to 3. -/
def laneOf (n : Nat) : Option Lane := if h : n < 4 then some ⟨n, h⟩ else none

/-- A slot number is 0 to 159. -/
def slotOf (n : Nat) : Option Slot := if h : n < 160 then some ⟨n, h⟩ else none

/-- A profile number is 0 to 15. -/
def profileOf (n : Nat) : Option ProfileNo := if h : n < 16 then some ⟨n, h⟩ else none

/-- The lanes a lane field names where it may carry 255 for ALL. -/
def lanesOf (n : Nat) : Option (List Lane) :=
  if n = Config.allCode then some [0, 1, 2, 3] else (laneOf n).map fun l => [l]

/-- Field codes 0 to 16 of an Answer Layout. -/
def FieldCode.ofCode : Nat → Option FieldCode
  | 0 => some .none
  | 1 => some .segment
  | 2 => some .revisionHigh
  | 3 => some .revisionLow
  | 4 => some .positionHigh
  | 5 => some .positionLow
  | 6 => some .lateral
  | 7 => some .liftR
  | 8 => some .liftG
  | 9 => some .liftB
  | 10 => some .gainR
  | 11 => some .gainG
  | 12 => some .gainB
  | 13 => some .fade
  | 14 => some .lamp
  | 15 => some .cadence
  | 16 => some .flags
  | _ => none

/-- Reel state codes. -/
def ReelState.code : ReelState → Nat
  | .empty => 0
  | .loaded => 1
  | .scanning => 2
  | .paused => 3
  | .ended => 4
  | .closing => 5

/-- Tracker state codes. -/
def TrackerState.code : TrackerState → Nat
  | .idle => 0
  | .threading => 1
  | .locked => 2
  | .coasting => 3
  | .lost => 4
  | .paused => 5
  | .relocking => 6
  | .ended => 7

/-- Origin codes of the READ_SEGMENT table. -/
def Origin.code : Origin → Nat
  | .start => 0
  | .spliceTape => 1
  | .spliceCement => 2
  | .pitchStep => 3
  | .densityStep => 4
  | .drift => 5
  | .gap => 6
  | .operatorCut => 7

/-- The origin a candidate's segment takes (R77, R91). -/
def CandidateKind.origin : CandidateKind → Origin
  | .spliceTape => .spliceTape
  | .spliceCement => .spliceCement
  | .pitchStep => .pitchStep
  | .densityStep => .densityStep
  | .drift => .drift
  | .gap => .gap

/-- Candidate state codes. -/
def CandidateState.code : CandidateState → Nat
  | .armed => 0
  | .evaluating => 1

/-- Evidence flags: bit 0 SENSOR, bit 1 PITCH, bit 2 DENSITY, bit 3 DRIFT. -/
def Evidence.code (e : Evidence) : Nat := e.sensor.toNat + 2 * e.pitch.toNat + 4 * e.density.toNat + 8 * e.drift.toNat

/-- Phase codes of the READ_SEGMENT table. -/
def Phase.code : Phase → Nat
  | .measuring => 0
  | .computing => 1
  | .settled => 2
  | .regrading => 3

/-- Grade source codes of the READ_SEGMENT table. -/
def GradeSource.code : GradeSource → Nat
  | .inherited => 0
  | .computed => 1
  | .defaulted => 2
  | .console => 3
  | .profile => 4

/-- Owner codes of the READ_SEGMENT table. -/
def Owner.code : Owner → Nat
  | .auto => 0
  | .console => 1

/-- Life codes of the READ_SEGMENT table; FREE is 0. -/
def Life.code : Life → Nat
  | .live => 1
  | .retiring => 2

/-- Reply status codes. -/
def ReplyStatus.code : ReplyStatus → Nat
  | .ok => 0
  | .acceptedPending => 1
  | .refused => 2
  | .badFrame => 3
  | .notPermitted => 4
  | .busy => 5
  | .noReply => 6
  | .resetDone => 7

/-- Reason codes. -/
def Reason.code : Reason → Nat
  | .none => 0
  | .badLane => 1
  | .notEmpty => 2
  | .badValue => 3
  | .profileInvalid => 4
  | .gaugeMismatch => 5
  | .noReel => 6
  | .closing => 7
  | .wrongState => 8
  | .badProfile => 9
  | .inUse => 10
  | .badSlot => 11
  | .notLive => 12
  | .already => 13
  | .notOwner => 14
  | .busy => 15
  | .badFrameNumber => 16
  | .noSpace => 17
  | .noSuccessor => 18
  | .ownerDiffers => 19
  | .linkEnabled => 20

/-- Link status codes. -/
def LinkStatus.code : LinkStatus → Nat
  | .none => 0
  | .accepted => 1
  | .refusedFull => 2
  | .refusedAhead => 3
  | .noReel => 4
  | .outOfRange => 5
  | .badFrame => 6
  | .disabled => 7

/-- Answer status codes. -/
def AnswerStatus.code : AnswerStatus → Nat
  | .settled => 1
  | .provisional => 2
  | .noReel => 3
  | .closed => 4
  | .outOfRange => 5
  | .busy => 6

/-! ### Fields as bytes -/

/-- The `k` lowest bytes of a number, least significant first. -/
def leBytes : Nat → Nat → List Byte
  | 0, _ => []
  | k + 1, n => BitVec.ofNat 8 n :: leBytes k (n / 256)

/-- The number that bytes spell, least significant first. -/
def leValue : List Byte → Nat
  | [] => 0
  | b :: rest => b.toNat + 256 * leValue rest

/-- A field's bytes in the order a link's byte order gives (R176); a signed value is carried in two's complement. -/
def WireField.bytes (order : ByteOrder) (f : WireField) : List Byte :=
  let le := leBytes f.size (f.value % (256 ^ f.size : Nat)).toNat
  match order with
  | .lsFirst => le
  | .msFirst => le.reverse

/-- The number a field's bytes spell in a link's byte order. -/
def fieldValue (order : ByteOrder) (bytes : List Byte) : Nat :=
  match order with
  | .lsFirst => leValue bytes
  | .msFirst => leValue bytes.reverse

/-- The values of consecutive fields of the given sizes. -/
def fieldValues (order : ByteOrder) : List Nat → List Byte → List Nat
  | [], _ => []
  | k :: sizes, bytes => fieldValue order (bytes.take k) :: fieldValues order sizes (bytes.drop k)

/-- The value whose bit `i` is the i-th of a list of bits. -/
def bitsValue : List Bool → Nat
  | [] => 0
  | b :: rest => b.toNat + 2 * bitsValue rest

/-- A two-byte field read as a signed value. -/
def signed16 (n : Nat) : Int := if n < 32768 then n else (n : Int) - 65536

/-- The sum of bytes modulo 256. -/
def byteSum : List Byte → Byte
  | [] => 0
  | b :: rest => b + byteSum rest

/-- A frame with its check byte, chosen so that all bytes sum to 0 modulo 256 (R148, R173). -/
def withCheck (bytes : List Byte) : List Byte := bytes ++ [-byteSum bytes]

/-- A field of `size` bytes. -/
def wire (size : Nat) (value : Int) : WireField := { size := size, value := value }

/-- A value that may be absent, carried as all ones of its size. -/
def wireOpt (size : Nat) (value : Option Nat) : WireField :=
  match value with
  | some n => { size := size, value := n }
  | none => { size := size, value := -1 }

/-! ### Replies and answers as shifted out -/

/-- A reply frame: status with the IGNORED_REQUEST mark in its top bit, reason code, payload length, payload, check (11.7). 11.7 gives the low four bits and the top bit of the status byte only; that bits 4 to 6 are 0 is the model's choice (log entry 35). -/
def Reply.bytes (order : ByteOrder) (r : Reply) : List Byte :=
  let payload := r.payload.flatMap (WireField.bytes order)
  withCheck (BitVec.ofNat 8 (r.status.code + 128 * r.ignored.toNat) :: BitVec.ofNat 8 r.reason.code ::
    BitVec.ofNat 8 payload.length :: payload)

/-- The NO_REPLY frame (R172). -/
def Reply.noReply : Reply := { status := .noReply, reason := .none, payload := [], ignored := false }

/-- The BUSY frame (R174). -/
def Reply.busy : Reply := { status := .busy, reason := .none, payload := [], ignored := false }

/-- An answer as shifted out (R148). -/
def Answer.bytes (order : ByteOrder) (a : Answer) : List Byte :=
  withCheck ((wire 2 a.tag).bytes order ++ [BitVec.ofNat 8 a.status.code, BitVec.ofNat 8 a.lane.val] ++
    (wire 3 a.frame).bytes order ++ [BitVec.ofNat 8 a.slots.length] ++
    a.slots.flatMap fun (v : Nat) => (wire 2 v).bytes order)

/-- The EMPTY marker: nine bytes of 0 (R175). -/
def emptyMarker : List Byte := List.replicate 9 0

/-! ### Request frames on the control and grading links -/

/-- A transaction in which no byte was shifted in, or whose first byte is 0 or 255, carries no request (R172, R175). -/
def carriesRequest : List Byte → Bool
  | [] => false
  | b :: _ => b != 0 && b != 255

/-- A whole frame: at least 3 bytes, payload length 0 to 96, and 3 + payload length bytes shifted in (R173). -/
def frameWhole (bytes : List Byte) : Bool :=
  match bytes with
  | _ :: n :: _ :: _ => decide (n.toNat ≤ Config.payloadMax) && decide (3 + n.toNat ≤ bytes.length)
  | _ => false

/-- The bytes of the frame itself; bytes past the length it gives are ignored (R172). -/
def frameOf (bytes : List Byte) : List Byte := bytes.take (3 + (bytes.getD 1 0).toNat)

/-- A frame with a good check: it is whole and its bytes sum to 0 modulo 256 (R129, R173). -/
def goodCheck (bytes : List Byte) : Bool := carriesRequest bytes && frameWhole bytes && byteSum (frameOf bytes) == 0

/-- The payload of a whole frame. -/
def payloadOf (bytes : List Byte) : List Byte := (bytes.drop 2).take (bytes.getD 1 0).toNat

/-- The command codes permitted on each link (section 11.6 and the code table of 11.7): 1 to 16 on control, 17 to 25 on grading, 26 to 31 on both. -/
def permitted (link : PortName) (code : Nat) : Bool :=
  match link with
  | .control => (decide (1 ≤ code) && decide (code ≤ 16)) || (decide (26 ≤ code) && decide (code ≤ 31))
  | .grading => decide (17 ≤ code) && decide (code ≤ 31)

/-- The sizes of the fields of a request's payload, in order (11.7). SET_LAYOUT has one code byte per entry of its count. -/
def requestSizes (code : Nat) (payload : List Byte) : List Nat :=
  match code with
  | 1 => [1, 4, 1, 1, 1]
  | 7 => [1, 1, 3, 1, 1, 1, 1, 1, 1, 2, 2, 1, 2, 1, 2, 1, 2, 2, 2, 1]
  | 10 => 1 :: List.replicate (payload.headD 0).toNat 1
  | 11 => [1, 1]
  | 12 => [1, 1, 1, 1, 1]
  | 13 => [1, 1, 1]
  | 16 => []
  | 19 => [1, 2, 2, 2, 2, 2, 2, 1]
  | 20 => [1, 2, 2]
  | 21 => [1, 2]
  | 22 => [1, 1]
  | 23 => [1, 3]
  | 25 => []
  | 28 => [1, 1]
  | 30 => [1, 3]
  | _ => [1]

/-- The request a command code and its field values name. -/
def requestOf (link : PortName) (code : Nat) (fields : List Nat) : Option Instr :=
  match code, fields with
  | 1, [lane, tag, gauge, profile, cadence] => some (.loadReel lane tag gauge profile cadence)
  | 2, [lane] => some (.start lane)
  | 3, [lane] => some (.pause lane)
  | 4, [lane] => some (.resume lane)
  | 5, [lane] => some (.unload lane)
  | 6, [lane] => some (.laneReset lane)
  | 7, [number, gauge, pitch, tolerance, window, strength, coast, windowMark, size, drift, density, blackMark, black,
        whiteMark, white, fade, lamp, along, across, cadence] =>
    some (.setProfile number
      { gauge := gauge, nominalPitch := pitch, pitchTolerance := tolerance, captureWindow := window,
        minStrength := strength, coastLimit := coast, windowMark := windowMark, windowSize := size,
        driftLimit := drift, densityThreshold := density, blackMark := blackMark, targetBlack := black,
        whiteMark := whiteMark, targetWhite := white, fade := fade, defaultLamp := lamp,
        travelOffset := signed16 along, lateralOffset := signed16 across, cadence := cadence })
  | 8, [number] => some (.invalidateProfile number)
  | 9, [number] => some (.readProfile number)
  | 10, _ :: codes => some (.setLayout codes)
  | 11, [enable, order] => some (.setLookupLink enable order)
  | 12, [lane, kind, enable, route, hold] => some (.setPolicy lane kind enable route hold)
  | 13, [tick, limit, lease] => some (.setTimers tick limit lease)
  | 14, [slot] => some (.forceRelease slot)
  | 15, [lane] => some (.readLane lane)
  | 16, [] => some .resetPart
  | 17, [slot] => some (.take slot)
  | 18, [slot] => some (.release slot)
  | 19, [slot, lr, lg, lb, gr, gg, gb, fade] =>
    some (.setGrade slot ⟨signed16 lr, signed16 lg, signed16 lb⟩ ⟨gr, gg, gb⟩ fade)
  | 20, [slot, along, across] => some (.setOffset slot (signed16 along) (signed16 across))
  | 21, [slot, lamp] => some (.setLamp slot lamp)
  | 22, [slot, cadence] => some (.setCadence slot cadence)
  | 23, [slot, frame] => some (.cut slot frame)
  | 24, [slot] => some (.join slot)
  | 25, [] => some .renew
  | 26, [slot] => some (.regrade link slot)
  | 27, [slot] => some (.readSegment link slot)
  | 28, [lane, position] => some (.listReel link lane position)
  | 29, [lane] => some (.readNotices link lane)
  | 30, [lane, mask] => some (.clearNotice link lane mask)
  | 31, [order] => some (.setLink link order)
  | _, _ => none

/-- The four tests of R173, in their order, on a transaction's bytes that carry a request. -/
def checkRequest (link : PortName) (order : ByteOrder) (bytes : List Byte) : RequestCheck :=
  let code := (bytes.headD 0).toNat
  let payload := payloadOf bytes
  let sizes := requestSizes code payload
  if !frameWhole bytes then .badFrame
  else if byteSum (frameOf bytes) ≠ 0 then .badFrame
  else if !permitted link code then .notPermitted
  else if payload.length ≠ sizes.sum then .badFrame
  else match requestOf link code (fieldValues order sizes payload) with
    | some c => .dispatch c
    | none => .badFrame

/-! ### Lookup-link frames (R175) -/

/-- The request of a lookup-link transaction: none when the frame is not taken (BAD_FRAME). Bytes past the frame's length are ignored (log entry 17). -/
def lookupRequest (order : ByteOrder) (bytes : List Byte) : Option Instr :=
  match (bytes.headD 0).toNat with
  | 1 =>
    if bytes.length < 8 ∨ byteSum (bytes.take 8) ≠ 0 then none
    else match fieldValues order [2, 1, 3] (bytes.drop 1) with
      | [tag, lane, frame] => some (.lookup tag lane frame)
      | _ => none
  | 2 =>
    if bytes.length < 24 ∨ byteSum (bytes.take 24) ≠ 0 then none
    else match fieldValues order [1, 3, 2, 2, 2, 2, 2, 2, 2, 2, 2] (bytes.drop 1) with
      | [lane, frame, b0, b1, b2, w0, w1, w2, m0, m1, m2] =>
        some (.summary lane frame ⟨b0, b1, b2⟩ ⟨w0, w1, w2⟩ ⟨m0, m1, m2⟩)
      | _ => none
  | _ => none

/-! ### The frames that carry requests, as 11.7 lays them out -/

/-- The command code and the payload fields of a request's frame (11.7, "Command codes and request payloads"); none for a command that no control or grading frame carries. -/
def requestFields : Instr → Option (Nat × List WireField)
  | .loadReel lane tag gauge profile cadence =>
    some (1, [wire 1 lane, wire 4 tag, wire 1 gauge, wire 1 profile, wire 1 cadence])
  | .start lane => some (2, [wire 1 lane])
  | .pause lane => some (3, [wire 1 lane])
  | .resume lane => some (4, [wire 1 lane])
  | .unload lane => some (5, [wire 1 lane])
  | .laneReset lane => some (6, [wire 1 lane])
  | .setProfile number f =>
    some (7, [wire 1 number, wire 1 f.gauge, wire 3 f.nominalPitch, wire 1 f.pitchTolerance, wire 1 f.captureWindow,
      wire 1 f.minStrength, wire 1 f.coastLimit, wire 1 f.windowMark, wire 1 f.windowSize, wire 2 f.driftLimit,
      wire 2 f.densityThreshold, wire 1 f.blackMark, wire 2 f.targetBlack, wire 1 f.whiteMark, wire 2 f.targetWhite,
      wire 1 f.fade, wire 2 f.defaultLamp, wire 2 f.travelOffset, wire 2 f.lateralOffset, wire 1 f.cadence])
  | .invalidateProfile number => some (8, [wire 1 number])
  | .readProfile number => some (9, [wire 1 number])
  | .setLayout codes => some (10, wire 1 codes.length :: codes.map fun (c : Nat) => wire 1 c)
  | .setLookupLink enable order => some (11, [wire 1 enable, wire 1 order])
  | .setPolicy lane kind enable route hold =>
    some (12, [wire 1 lane, wire 1 kind, wire 1 enable, wire 1 route, wire 1 hold])
  | .setTimers tick limit lease => some (13, [wire 1 tick, wire 1 limit, wire 1 lease])
  | .forceRelease slot => some (14, [wire 1 slot])
  | .readLane lane => some (15, [wire 1 lane])
  | .resetPart => some (16, [])
  | .take slot => some (17, [wire 1 slot])
  | .release slot => some (18, [wire 1 slot])
  | .setGrade slot lift gain fade =>
    some (19, [wire 1 slot, wire 2 lift.r, wire 2 lift.g, wire 2 lift.b, wire 2 gain.r, wire 2 gain.g, wire 2 gain.b,
      wire 1 fade])
  | .setOffset slot along across => some (20, [wire 1 slot, wire 2 along, wire 2 across])
  | .setLamp slot lamp => some (21, [wire 1 slot, wire 2 lamp])
  | .setCadence slot cadence => some (22, [wire 1 slot, wire 1 cadence])
  | .cut slot frame => some (23, [wire 1 slot, wire 3 frame])
  | .join slot => some (24, [wire 1 slot])
  | .renew => some (25, [])
  | .regrade _ slot => some (26, [wire 1 slot])
  | .readSegment _ slot => some (27, [wire 1 slot])
  | .listReel _ lane position => some (28, [wire 1 lane, wire 1 position])
  | .readNotices _ lane => some (29, [wire 1 lane])
  | .clearNotice _ lane mask => some (30, [wire 1 lane, wire 3 mask])
  | .setLink _ order => some (31, [wire 1 order])
  | _ => none

/-- The link whose frame carries a request (section 11.6); none for a command that no control or grading frame carries. -/
def requestLink : Instr → Option PortName
  | .regrade link _ => some link
  | .readSegment link _ => some link
  | .listReel link _ _ => some link
  | .readNotices link _ => some link
  | .clearNotice link _ _ => some link
  | .setLink link _ => some link
  | c => (requestFields c).map fun p => if p.1 ≤ 16 then .control else .grading

/-- A request frame: command code, payload length, payload, check (11.7). -/
def frameBytes (order : ByteOrder) (code : Nat) (fields : List WireField) : List Byte :=
  let payload := fields.flatMap (WireField.bytes order)
  withCheck (BitVec.ofNat 8 code :: BitVec.ofNat 8 payload.length :: payload)

/-- The frame that carries a request in a byte order. -/
def requestFrame (order : ByteOrder) (c : Instr) : Option (List Byte) :=
  (requestFields c).map fun p => frameBytes order p.1 p.2

/-- A lookup-link frame: type, fields, check (11.7). -/
def lookupFrame (order : ByteOrder) : Instr → Option (List Byte)
  | .lookup tag lane frame =>
    some (withCheck (1 :: [wire 2 tag, wire 1 lane, wire 3 frame].flatMap (WireField.bytes order)))
  | .summary lane frame black white mean =>
    some (withCheck (2 :: [wire 1 lane, wire 3 frame, wire 2 black.r, wire 2 black.g, wire 2 black.b, wire 2 white.r,
      wire 2 white.g, wire 2 white.b, wire 2 mean.r, wire 2 mean.g, wire 2 mean.b].flatMap (WireField.bytes order)))
  | _ => none

/-! ### Gate words (R42, 11.7) -/

/-- A gate word of six bytes, always MS-first: kind, byte 1, position. -/
def gateWordOf (bytes : List Byte) : GateWord :=
  match bytes with
  | [kind, detail, p3, p2, p1, p0] =>
    let position := fieldValue .msFirst [p3, p2, p1, p0]
    match kind.toNat with
    | 1 => .perf position detail.toNat
    | 2 => .splice position detail.toNat
    | 3 => .travel position
    | 4 => .runout position
    | _ => .malformed
  | _ => .malformed

end Sys2Proof.Machine
end

