-- ==== Sys2Proof/Machine/Flags.lean ====
section
/-! DEFINITION. Everything computed from what State holds: the flags of a segment and its answered fields (R17), notice flags, and the levels of READY, ANSWER, ATTN-C, ATTN-G and HOLD. -/

namespace Sys2Proof.Machine

/-- The FLAGS of a segment: bit 0 REGRADING, bit 1 COASTED, bit 2 DEFAULTED, bit 3 CONSOLE, bit 4 PROVISIONAL_PITCH (R17, 11.7). -/
def Segment.flags (r : Segment) : Nat :=
  (decide (r.phase = .regrading)).toNat + 2 * (decide (0 < r.coasts)).toNat + 4 * (decide (r.source = .defaulted)).toNat +
  8 * (decide (r.owner = .console)).toNat + 16 * (decide (r.phase = .measuring)).toNat

/-- The answered fields of a segment (R17). -/
def Segment.answered (r : Segment) : Answered :=
  { first := r.first, last := r.last, anchorFrame := r.anchorFrame, anchorPosition := r.anchorPosition,
    pitch := r.pitch, travelOffset := r.travelOffset, lateralOffset := r.lateralOffset, lift := r.lift, gain := r.gain,
    fade := r.fade, lamp := r.lamp, cadence := r.cadence, flags := r.flags }

/-- A closed segment covers its first to its last frame; an open one every frame from its first on (R7, R23). -/
def Segment.covers (r : Segment) (f : Nat) : Bool :=
  decide (r.first ≤ f) && (match r.last with | none => true | some n => decide (f ≤ n))

/-- A segment accumulates summaries while MEASURING or REGRADING (R13). -/
def Segment.accumulates (r : Segment) : Bool := decide (r.phase = .measuring) || decide (r.phase = .regrading)

/-- One value of a vector replaced by a function of it. -/
def update {α : Type} {n : Nat} (v : Vector α n) (i : Fin n) (f : α → α) : Vector α n := v.set i.val (f v[i.val]) i.isLt

/-- One lane's state. -/
def State.lane (s : State) (l : Lane) : LaneState := s.lanes[l.val]

/-- The record of a slot; none is a FREE record (R1). -/
def State.seg (s : State) (i : Slot) : Option Segment := s.segments[i.val]

/-- A lane's chain, head first (R22). -/
def State.chain (s : State) (l : Lane) : List Slot := (s.lane l).reel.chain

/-- A stock profile record. -/
def State.profile (s : State) (p : ProfileNo) : Profile := s.profiles[p.val]

/-- The profile that a lane's reel names (R26); the power-on profile stands in for a lane with no reel, which no rule reads. -/
def State.laneProfile (s : State) (l : Lane) : Profile :=
  match (s.lane l).reel.load with
  | some d => s.profile d.profile
  | none => Profile.powerOn

/-- The open segment of a lane: the last of its chain, while it has no last frame (R7, R22). -/
def State.openSeg (s : State) (l : Lane) : Option (Slot × Segment) :=
  match (s.chain l).getLast? with
  | none => none
  | some i =>
    match s.seg i with
    | some r => if r.last = none then some (i, r) else none
    | none => none

/-- The slot of the open segment, as a notice names it. -/
def State.openSlot (s : State) (l : Lane) : Option Slot := (s.openSeg l).map Prod.fst

/-- The number of reels for which a profile is in use (R35). -/
def State.inUse (s : State) (p : ProfileNo) : Nat :=
  (List.finRange 4).countP fun l =>
    decide ((s.lane l).reel.state ≠ .empty) && decide ((s.lane l).reel.load.map ReelLoad.profile = some p)

/-- The reservation count: answers queued plus entries deferred (R134). -/
def State.reservations (s : State) : Nat := s.lookup.answers.length + s.lookup.deferred.length

/-- The ANSWER line is active while the Answer Queue holds an answer (R146). -/
def State.answerLine (s : State) : Bool := !s.lookup.answers.isEmpty

/-- READY of a link: inactive from the dispatch of a request until its reply enters the slot (R174). -/
def Link.ready (k : Link) : Bool := k.dispatched.isNone

/-- A flag drives an attention line when it is set, its kind's notice enable is yes and its route reaches the line (R167). -/
def drives (toControl : Bool) (f : NoticeFlag) (p : Policy) : Bool :=
  f.raised && p.enable &&
    (match p.route with
     | .control => toControl
     | .grading => !toControl
     | .both => true)

/-- The level of ATTN-C (`toControl`) or ATTN-G (R167). -/
def State.attention (s : State) (toControl : Bool) : Bool :=
  ((List.finRange 4).any fun l => (List.finRange 11).any fun k =>
    drives toControl (s.lane l).notices[k.val] (s.lane l).policies[k.val]) ||
  (List.finRange 5).any fun k => drives toControl s.partNotices[k.val] s.partPolicies[k.val]

/-- The level of ATTN-C. -/
def State.attnC (s : State) : Bool := s.attention true

/-- The level of ATTN-G. -/
def State.attnG (s : State) : Bool := s.attention false

/-- The level of a lane's HOLD line: some lane flag is set whose hold enable is yes (R168). -/
def State.holdLine (s : State) (l : Lane) : Bool :=
  (List.finRange 11).any fun k => (s.lane l).notices[k.val].raised && (s.lane l).policies[k.val].hold

/-- Whether any lane flag of a lane is set (R164). -/
def State.laneFlagged (s : State) (l : Lane) : Bool := (List.finRange 11).any fun k => (s.lane l).notices[k.val].raised

end Sys2Proof.Machine
end

