-- ==== Sys2Proof/Machine/Ops.lean ====
section
/-! DEFINITION. The named operations over the records that every block shares: writes of one lane or record, notices, allocation and freeing, the Compute Queue, revisions and replies. -/

namespace Sys2Proof.Machine

/-- What a step answers. -/
abbrev Result := Host.Outcome State Fault Refusal

/-- A command's effect on a part whose RESET line is not held: while it is, every transaction and gate word is ignored, so no request reaches a block, and every output stays at its reset level (R178). POWER_ON and RESET_LINE alone act without this test (log entry 19). -/
def State.unlessReset (s : State) (act : State → State) : Result := .next (if s.resetHeld then s else act s)

/-! ### Writes of one part of the state -/

/-- A write of one lane. -/
def State.onLane (s : State) (l : Lane) (f : LaneState → LaneState) : State := { s with lanes := update s.lanes l f }

/-- A write of one lane's reel record. -/
def State.onReel (s : State) (l : Lane) (f : Reel → Reel) : State := s.onLane l fun d => { d with reel := f d.reel }

/-- A write of one lane's tracker. -/
def State.onTracker (s : State) (l : Lane) (f : Tracker → Tracker) : State :=
  s.onLane l fun d => { d with tracker := f d.tracker }

/-- A write of one lane's Candidate Queue. -/
def State.setQueue (s : State) (l : Lane) (q : List Candidate) : State := s.onLane l fun d => { d with queue := q }

/-- A write of one lane's measure point (R65). -/
def State.setMeasure (s : State) (l : Lane) (m : Option MeasurePoint) : State := s.onLane l fun d => { d with measure := m }

/-- A load of one lane's lamp duty (R169). -/
def State.setDuty (s : State) (l : Lane) (d : Nat) : State := s.onLane l fun x => { x with duty := d }

/-- A write of a record, or its return to FREE. -/
def State.putSeg (s : State) (i : Slot) (r : Option Segment) : State :=
  { s with segments := update s.segments i fun _ => r }

/-- A change of a record that is not FREE. -/
def State.onSeg (s : State) (i : Slot) (f : Segment → Segment) : State :=
  { s with segments := update s.segments i (Option.map f) }

/-- A write of the lookup unit. -/
def State.onLookup (s : State) (f : LookupUnit → LookupUnit) : State := { s with lookup := f s.lookup }

/-- One of the two links. -/
def State.link (s : State) : PortName → Link
  | .control => s.control
  | .grading => s.grading

/-- A write of one of the two links. -/
def State.onLink (s : State) (k : PortName) (f : Link → Link) : State :=
  match k with
  | .control => { s with control := f s.control }
  | .grading => { s with grading := f s.grading }

/-! ### Notices (R162) -/

/-- A lane notice is raised: its flag is set and its latest-slot written, with the slot or with absent. -/
def State.raise (s : State) (l : Lane) (k : LaneKind) (slot : Option Slot) : State :=
  s.onLane l fun d => { d with notices := update d.notices k.index fun _ => { raised := true, latest := slot } }

/-- A part-wide notice is raised. -/
def State.raisePart (s : State) (k : PartKind) (slot : Option Slot) : State :=
  { s with partNotices := update s.partNotices k.index fun _ => { raised := true, latest := slot } }

/-! ### Allocation and freeing (R2, R3, R4) -/

/-- The allocation test and the head of the Free List (R2): the slot, and the state with the slot off the list. The requesting operation then installs the record. -/
def State.allocate (s : State) (l : Lane) : Option (Slot × State) :=
  match s.freeList with
  | [] => none
  | i :: rest => if (s.chain l).length < Config.chainMax then some (i, { s with freeList := rest }) else none

/-- The fields R2 gives every allocated record; the rest are written by the requesting operation. -/
def Segment.fresh (l : Lane) (p : ProfileNo) : Segment :=
  { lane := l, life := .live, revision := 1, first := 0, last := none, origin := .start, phase := .measuring,
    anchorFrame := 0, anchorPosition := 0, pitch := 0, perforations := 0, coasts := 0, travelOffset := 0,
    lateralOffset := 0, lift := ⟨0, 0, 0⟩, gain := ⟨1024, 1024, 1024⟩, fade := none, lamp := 0, cadence := 0,
    source := .profile, luminance := none, acc := Accum.zero, owner := .auto, takePending := false, profile := p }

/-- The allocated record is written and its slot placed in the chain, in one (R2, R22). -/
def State.install (s : State) (l : Lane) (i : Slot) (r : Segment) (place : List Slot → List Slot) : State :=
  (s.putSeg i (some r)).onReel l fun q => { q with chain := place q.chain }

/-- A chain with a slot inserted immediately after another (R22, CUT). -/
def insertAfter (i j : Slot) : List Slot → List Slot
  | [] => []
  | k :: rest => if k = i then k :: j :: rest else k :: insertAfter i j rest

/-- The slot that follows another in a chain (R127). -/
def successorOf (i : Slot) : List Slot → Option Slot
  | [] => none
  | k :: rest => if k = i then rest.head? else successorOf i rest

/-- The engine begins the head of the Compute Queue whenever it is IDLE and the queue is not empty (R104). -/
def State.engineBegin (s : State) : State :=
  match s.engine, s.computeQueue with
  | none, i :: rest => { s with engine := some i, computeQueue := rest }
  | _, _ => s

/-- A slot whose segment enters COMPUTING joins the tail of the Compute Queue (R103), and an IDLE engine begins it at once. -/
def State.enqueue (s : State) (i : Slot) : State := { s with computeQueue := s.computeQueue ++ [i] }.engineBegin

/-- A record is freed (R4): out of its chain, at the tail of the Free List, out of the Compute Queue or, by cancellation, out of the engine. -/
def State.freeSlot (s : State) (i : Slot) : State :=
  match s.seg i with
  | none => s
  | some r =>
    { (s.putSeg i none).onReel r.lane fun q => { q with chain := q.chain.erase i } with
      freeList := s.freeList ++ [i]
      computeQueue := s.computeQueue.erase i
      engine := if s.engine = some i then none else s.engine }

/-! ### Revisions (R18) -/

/-- The revision goes up by 1. -/
def Segment.bump (r : Segment) : Segment := { r with revision := nextRevision r.revision }

/-- One increment for a whole operation: `before` is the state before it, `s` the state it made; the segment's revision is one past the one before when an answered field differs, and otherwise as it was (R18, log entry 8). -/
def State.revise (s before : State) (i : Slot) : State :=
  match before.seg i, s.seg i with
  | some a, some b =>
    if a.answered = b.answered then s else s.onSeg i fun r => { r with revision := nextRevision a.revision }
  | _, _ => s

/-! ### Replies (R171, R173) -/

/-- A reply enters the link's slot, the request is complete and READY goes active (R171, R174). -/
def State.reply (s : State) (k : PortName) (status : ReplyStatus) (reason : Reason) (payload : List WireField) : State :=
  s.onLink k fun x =>
    { x with slot := some { status := status, reason := reason, payload := payload, ignored := false }, dispatched := none }

/-- A request is taken: OK, with the reply payload its rule names. -/
def State.ok (s : State) (k : PortName) (payload : List WireField := []) : State := s.reply k .ok .none payload

/-- A request is refused with a reason code and changes no record. -/
def State.refuse (s : State) (k : PortName) (reason : Reason) : State := s.reply k .refused reason []

/-- A request is refused with BAD_VALUE naming a number (R173). -/
def State.refuseValue (s : State) (k : PortName) (number : Nat) : State := s.reply k .refused .badValue [wire 1 number]

end Sys2Proof.Machine
end

