-- ==== Sys2Proof/Machine/Registration.lean ====
section
/-! DEFINITION. The model unit: predicted positions, the running estimate, the pitch at settle, and the settle and close of a segment (R19-R21, R64-R74). -/

namespace Sys2Proof.Machine

/-- The predicted position of a frame under a segment's model, without bounds and without the travel offset (R19, R74). -/
def Segment.predicted (r : Segment) (n : Nat) : Int :=
  r.anchorPosition + roundDiv (((n : Int) - r.anchorFrame) * r.pitch) 10

/-- The answered POSITION of a frame (R19, R74). -/
def Segment.answeredPosition (r : Segment) (n : Nat) : Int :=
  clampTo 0 Config.positionMax (r.predicted n + r.travelOffset)

/-- The pitch measured from a segment's anchor to a frame `m` at position `p`, when it lies two frames or more past the anchor; otherwise the pitch field as it stands (R67, R69, R70). -/
def Segment.pitchTo (r : Segment) (m : Nat) (p : Int) : Nat :=
  if r.anchorFrame + 2 ≤ m then clampPitch (roundDiv (10 * (p - r.anchorPosition)) (m - r.anchorFrame)) else r.pitch

/-- The running estimate from a lane's measure point, or the pitch field as it stands (R67). -/
def Segment.estimate (r : Segment) (m : Option MeasurePoint) : Nat :=
  match m with
  | some q => r.pitchTo q.frame q.position
  | none => r.pitch

/-- The mean luminance an accumulator gives: floor of the mean sums over three times the count (R21, R105). -/
def Accum.luminance (a : Accum) : Nat := a.mean.total / (3 * a.count)

/-- The row of R21 that a segment's settle takes. -/
def Segment.settleRow (r : Segment) : SettleRow :=
  if r.owner = .console ∨ r.source = .console then .keep
  else if Config.gradeSummaries ≤ r.acc.count then .compute
  else .default

/-- The default grade: lift 0 and gain 1024 in each channel and the profile's fade curve; lamp and cadence kept (R21, R106). -/
def Segment.defaultGrade (r : Segment) (p : Profile) : Segment :=
  { r with lift := ⟨0, 0, 0⟩, gain := ⟨1024, 1024, 1024⟩, fade := p.fade, source := .defaulted }

/-- The settled luminance of a segment that settles with its grade kept: from its accumulator when it holds 4 summaries or more (R21, R118). -/
def Segment.keptLuminance (r : Segment) : Option Nat :=
  if Config.gradeSummaries ≤ r.acc.count then some r.acc.luminance else r.luminance

/-- The phase and grade a settle leaves (R21); the pitch has been fixed. -/
def Segment.settled (r : Segment) (p : Profile) : Segment :=
  match r.settleRow with
  | .compute => { r with phase := .computing }
  | .default => { r.defaultGrade p with phase := .settled, luminance := none }
  | .keep => { r with phase := .settled, luminance := r.keptLuminance }

/-- A segment settles with the pitch given: its record, its place in the Compute Queue, its notices (R20, R21). The revision is the operation's. -/
def State.settle (s : State) (i : Slot) (pitch : Nat) : State :=
  match s.seg i with
  | none => s
  | some r =>
    let done := ({ r with pitch := pitch } : Segment).settled (s.profile r.profile)
    let s := s.putSeg i (some done)
    match r.settleRow with
    | .compute => s.enqueue i
    | .default => (s.raise r.lane .gradeDefaulted (some i)).raise r.lane .segmentSettled (some i)
    | .keep => s.raise r.lane .segmentSettled (some i)

/-- A segment is closed at `last`; a MEASURING one settles as part of the close, with the pitch given (R7, R20). The revision is the operation's. -/
def State.closeSeg (s : State) (i : Slot) (last pitch : Nat) : State :=
  match s.seg i with
  | none => s
  | some r =>
    let s := s.putSeg i (some { r with last := some last })
    if r.phase = .measuring then s.settle i pitch else s

/-- The open segment of a lane is closed at the current frame, its pitch read from the measure point, which then becomes absent (R59, R65, R69, R152). -/
def State.closeOpen (s : State) (l : Lane) : State :=
  match s.openSeg l with
  | none => s.setMeasure l none
  | some (i, r) =>
    (s.closeSeg i (((s.lane l).tracker.current).getD r.first) (r.estimate (s.lane l).measure)).setMeasure l none

/-- The open segment's pitch field (R46, R53); the profile's nominal pitch stands in when there is none, which no rule reads. -/
def State.openPitch (s : State) (l : Lane) : Nat :=
  match s.openSeg l with
  | some (_, r) => r.pitch
  | none => (s.laneProfile l).nominalPitch

end Sys2Proof.Machine
end

