-- ==== Sys2Proof/Machine/Retirement.lean ====
section
/-! DEFINITION. The reel manager's closing: the holds of a RETIRING segment, its freeing, and the end of a closing (R155-R158). -/

namespace Sys2Proof.Machine

/-- A Deferred Set entry with reason SEGMENT awaits the slot (R138). -/
def Deferral.awaits (e : Deferral) (i : Slot) : Bool := decide (e.reason = .segment i)

/-- A RETIRING segment is held from freeing (R155). -/
def State.held (s : State) (i : Slot) (r : Segment) : Bool :=
  decide (r.owner = .console) || r.takePending || decide (r.phase = .measuring) || decide (r.phase = .computing) ||
  s.lookup.deferred.any fun e => e.awaits i

/-- The re-check of one slot: a RETIRING segment that nothing holds is freed (R155, R156). -/
def State.retireSlot (s : State) (i : Slot) : State :=
  match s.seg i with
  | some r => if r.life = .retiring ∧ s.held i r = false then s.freeSlot i else s
  | none => s

/-- A CLOSING reel whose chain is empty becomes EMPTY, with REEL_RETIRED (R41, R158). -/
def State.endClosing (s : State) (l : Lane) : State :=
  if (s.lane l).reel.state = .closing ∧ s.chain l = [] then
    (s.onLane l fun d =>
      { d with
        reel := { d.reel with state := .empty, load := none }
        tracker := { d.tracker with current := none, lastPosition := none, deadline := none } }).raise l .reelRetired none
  else s

/-- The re-check of the slots of one lane's chain that `named` picks, in chain order, head first (R157). -/
def State.retireChain (s : State) (named : Slot → Bool) (l : Lane) : State :=
  (s.chain l).foldl (fun s i => if named i then s.retireSlot i else s) s

/-- The same re-check, with the end of the closing when a freeing leaves the chain empty (R157, R158). -/
def State.retireLane (s : State) (named : Slot → Bool) (l : Lane) : State :=
  let t := s.retireChain named l
  if (t.chain l).length < (s.chain l).length then t.endClosing l else t

/-- The re-check of the named slots, lowest lane first and each reel in chain order (R156, R157). -/
def State.retire (s : State) (named : Slot → Bool) : State :=
  (((s.retireLane named 0).retireLane named 1).retireLane named 2).retireLane named 3

end Sys2Proof.Machine
end

