-- ==== Sys2Proof/Machine/Lookups.lean ====
section
/-! DEFINITION. The lookup unit: finding a frame, classifying a lookup, making answers, and what an event does with the Deferred Set (R23, R136-R148). -/

namespace Sys2Proof.Machine

/-! ### Finding a frame (R23) -/

/-- The first segment of a list of slots that covers a frame. -/
def State.findCovering (s : State) (f : Nat) : List Slot → Option (Slot × Segment)
  | [] => none
  | i :: rest =>
    match s.seg i with
    | some r => if r.covers f then some (i, r) else s.findCovering f rest
    | none => s.findCovering f rest

/-- Finding frame `f` in a lane's chain: FOUND, PAST or NONE (R23). -/
def State.find (s : State) (l : Lane) (f : Nat) : FindResult :=
  match s.findCovering f (s.chain l) with
  | some (i, r) => .found i r
  | none =>
    match (s.chain l).getLast?.bind s.seg with
    | some r =>
      (match r.last with
       | some n => if n < f then .past else .absent
       | none => .absent)
    | none => .absent

/-! ### Answers (R137, R148) -/

/-- The 16-bit value of a slot that carries the field, from a source segment (R148); signed values in two's complement. -/
def FieldCode.value (f : Nat) (i : Slot) (r : Segment) (c : FieldCode) : Nat :=
  let x : Int :=
    match c with
    | .none => 0
    | .segment => i.val
    | .revisionHigh => (r.revision / 65536 : Nat)
    | .revisionLow => r.revision
    | .positionHigh => r.answeredPosition f / 65536
    | .positionLow => r.answeredPosition f
    | .lateral => r.lateralOffset
    | .liftR => r.lift.r
    | .liftG => r.lift.g
    | .liftB => r.lift.b
    | .gainR => r.gain.r
    | .gainG => r.gain.g
    | .gainB => r.gain.b
    | .fade => (r.fade.getD 65535 : Nat)
    | .lamp => r.lamp
    | .cadence => r.cadence
    | .flags => r.flags
  (x % 65536).toNat

/-- An answer made from a segment as it stands (R137, R142). -/
def State.answerFrom (s : State) (tag : Nat) (l : Lane) (f : Nat) (status : AnswerStatus) (i : Slot) (r : Segment) : Answer :=
  { tag := tag, status := status, lane := l, frame := f, slots := s.lookup.layout.map (FieldCode.value f i r) }

/-- An answer with no source: every slot carries 0 (R137, R148). -/
def State.plainAnswer (s : State) (tag : Nat) (l : Lane) (f : Nat) (status : AnswerStatus) : Answer :=
  { tag := tag, status := status, lane := l, frame := f, slots := s.lookup.layout.map fun _ => 0 }

/-! ### Classification (R136) -/

/-- The last two tests of R136: by the phase of the segment that holds the frame. -/
def State.classifyFound (s : State) (l : Lane) (f : Nat) : Verdict :=
  match s.find l f with
  | .found i r => if r.phase = .measuring ∨ r.phase = .computing then .defer (.segment i) else .source i r
  | _ => .plain .outOfRange

/-- The frame lies past the tracker's current frame, an absent one included (R44, R136). -/
def State.isAhead (s : State) (l : Lane) (f : Nat) : Bool :=
  match (s.lane l).tracker.current with
  | none => true
  | some c => decide (c < f)

/-- The tests of R136 from the CANDIDATE test on. -/
def State.classifyTaken (s : State) (l : Lane) (f : Nat) : Verdict :=
  match (s.lane l).queue with
  | h :: _ => if h.frame ≤ f then .defer .candidate else s.classifyFound l f
  | [] => s.classifyFound l f

/-- The tests of R136, in their order. -/
def State.classify (s : State) (l : Lane) (f : Nat) : Verdict :=
  match (s.lane l).reel.state with
  | .empty => .plain .noReel
  | .loaded => .plain .noReel
  | .closing => .plain .closed
  | .ended =>
    (match s.find l f with
     | .found _ _ => s.classifyTaken l f
     | _ => .plain .outOfRange)
  | .scanning => if s.isAhead l f then .defer .ahead else s.classifyTaken l f
  | .paused => if s.isAhead l f then .defer .ahead else s.classifyTaken l f

/-! ### Re-checks (R139, R145) -/

/-- The re-check of an entry of a CLOSING lane: by the segment that holds its frame (R145). -/
def State.recheckClosing (s : State) (e : Deferral) : Disposal :=
  match s.find e.lane e.frame with
  | .found i r =>
    if r.phase = .settled then .answer (s.answerFrom e.tag e.lane e.frame .settled i r)
    else .keep { e with reason := .segment i }
  | _ => .keep e

/-- The re-check of an entry (R139): its remaining ticks are kept when it waits again. -/
def State.recheckEntry (s : State) (e : Deferral) : Disposal :=
  if (s.lane e.lane).reel.state = .closing then s.recheckClosing e
  else
    match s.classify e.lane e.frame with
    | .plain status => .answer (s.plainAnswer e.tag e.lane e.frame status)
    | .source i r => .answer (s.answerFrom e.tag e.lane e.frame .settled i r)
    | .defer reason => .keep { e with reason := reason }

/-- The entry that stays, if one does. -/
def Disposal.kept : Disposal → Option Deferral
  | .keep e => some e
  | .answer _ => none

/-- The answer made, if one is. -/
def Disposal.made : Disposal → Option Answer
  | .keep _ => none
  | .answer a => some a

/-- An event deals with every entry in acceptance order: those that stay keep their order, and the answers join the tail of the Answer Queue with their entries' reservations (R138, R139). -/
def State.dispose (s : State) (deal : Deferral → Disposal) : State :=
  s.onLookup fun u =>
    { u with
      deferred := (u.deferred.map deal).filterMap Disposal.kept
      answers := u.answers ++ (u.deferred.map deal).filterMap Disposal.made }

/-- The re-check of the entries that `concerned` picks (R140). -/
def State.recheck (s : State) (concerned : Deferral → Bool) : State :=
  s.dispose fun e => if concerned e then s.recheckEntry e else .keep e

/-- Whether a segment that was MEASURING before the operation no longer is: it settled in it (R140). -/
def State.settledSince (s before : State) (i : Slot) : Bool :=
  decide ((before.seg i).map Segment.phase = some .measuring) && decide ((s.seg i).map Segment.phase ≠ some .measuring)

/-- The entry awaits a segment that settled in the operation (R140). -/
def State.awaitsSettled (s before : State) (e : Deferral) : Bool :=
  match e.reason with
  | .segment i => s.settledSince before i
  | _ => false

/-- Whether the operation took an entry from a lane's Candidate Queue or moved its head's frame; an arrival in an empty queue is neither (R97). -/
def State.headMoved (s before : State) (l : Lane) : Bool :=
  match (before.lane l).queue with
  | [] => false
  | h :: _ =>
    decide (((s.lane l).queue.head?).map Candidate.frame ≠ some h.frame) ||
    decide ((s.lane l).queue.length < (before.lane l).queue.length)

/-- The re-checks at the end of a frame taken or a relock of lane `l` (R140): AHEAD entries, CANDIDATE entries when the head resolved, and entries awaiting a segment that settled. -/
def State.recheckFrame (s before : State) (l : Lane) : State :=
  s.recheck fun e =>
    (decide (e.lane = l) && (decide (e.reason = .ahead) || (decide (e.reason = .candidate) && s.headMoved before l))) ||
    s.awaitsSettled before e

/-! ### Expiry (R142) -/

/-- What a PROVISIONAL answer is built from (R142): the awaited segment of a CLOSING lane's entry, the segment that holds a frame already taken, the open segment for one past the current frame, or none. -/
def State.provisionalSource (s : State) (e : Deferral) : Option (Slot × Segment) :=
  match (s.lane e.lane).reel.state, e.reason with
  | .closing, .segment i => (s.seg i).map fun r => (i, r)
  | _, _ =>
    if s.isAhead e.lane e.frame then s.openSeg e.lane
    else
      match s.find e.lane e.frame with
      | .found i r => some (i, r)
      | _ => none

/-- The entry's last tick comes: the tick that brings its remaining ticks to 0 is its expiry, so no entry ever holds 0 (R138, R141). -/
def Deferral.lastTick (e : Deferral) : Bool := decide (e.remaining ≤ 1)

end Sys2Proof.Machine
end

