-- ==== Sys2Proof/Machine/Resolver.lean ====
section
/-! DEFINITION. The boundary resolver: accumulators and hand-back, arrival and merge of candidates, the tests of R86, the split, and the resolver's part of a frame taken (R77-R96). -/

namespace Sys2Proof.Machine

/-! ### Accumulators (R13, R81) -/

/-- One summary added: the count goes up by 1 and each sum takes its value (R13). -/
def Accum.addSummary (a : Accum) (black white mean : Rgb Nat) : Accum :=
  { count := a.count + 1, black := Rgb.zip (· + ·) a.black black, white := Rgb.zip (· + ·) a.white white,
    mean := Rgb.zip (· + ·) a.mean mean }

/-- Two accumulators added (R81). -/
def Accum.merge (a b : Accum) : Accum :=
  { count := a.count + b.count, black := Rgb.zip (· + ·) a.black b.black, white := Rgb.zip (· + ·) a.white b.white,
    mean := Rgb.zip (· + ·) a.mean b.mean }

/-- A new accumulator is written to a segment; a REGRADING one that reaches the window size enters COMPUTING and joins the Compute Queue (R109). The revision is the operation's. -/
def State.accumulate (s : State) (i : Slot) (acc : Accum) : State :=
  match s.seg i with
  | none => s
  | some r =>
    if r.phase = .regrading ∧ (s.profile r.profile).windowSize ≤ acc.count then
      (s.putSeg i (some { r with acc := acc, phase := .computing })).enqueue i
    else s.putSeg i (some { r with acc := acc })

/-- A candidate's accumulator is handed back to the open segment, or discarded when that does not accumulate or the sum would pass 64 (R81). -/
def State.handBack (s : State) (l : Lane) (acc : Accum) : State :=
  match s.openSeg l with
  | none => s
  | some (i, r) =>
    if acc.count ≠ 0 ∧ r.accumulates = true ∧ r.acc.count + acc.count ≤ Config.summariesMax then
      s.accumulate i (r.acc.merge acc)
    else s

/-- The queue is emptied in queue order with every accumulator handed back (R96). -/
def State.teardownQueue (s : State) (l : Lane) : State :=
  ((s.lane l).queue.foldl (fun s e => s.handBack l e.acc) s).setQueue l []

/-! ### Arrival (R80, R82) -/

/-- The sensor kinds (R77). -/
def CandidateKind.isSensor : CandidateKind → Bool
  | .spliceTape => true
  | .spliceCement => true
  | _ => false

/-- Two sets of evidence flags together (R82). -/
def Evidence.union (a b : Evidence) : Evidence :=
  { sensor := a.sensor || b.sensor, pitch := a.pitch || b.pitch, density := a.density || b.density,
    drift := a.drift || b.drift }

/-- No evidence. -/
def Evidence.none : Evidence := { sensor := false, pitch := false, density := false, drift := false }

/-- Whether a merge takes the arriving candidate's frame: the merged tail is ARMED and the candidate lies past it (R82). -/
def Candidate.movesForward (tail c : Candidate) : Bool :=
  (c.kind.isSensor || decide (tail.state = .armed)) && decide (tail.frame < c.frame)

/-- The tail after a merge (R82). -/
def Candidate.mergeInto (tail c : Candidate) : Candidate :=
  let armed := c.kind.isSensor || decide (tail.state = .armed)
  let merged : Candidate :=
    { tail with
      evidence := tail.evidence.union c.evidence
      kind := if c.kind.isSensor && !tail.kind.isSensor then c.kind else tail.kind
      state := if armed then .armed else tail.state }
  if tail.movesForward c then
    { merged with frame := c.frame, position := c.position, span := c.span, acc := Accum.zero }
  else merged

/-- An arriving candidate is discarded, queued or merged into the tail (R80). -/
def State.arrive (s : State) (l : Lane) (c : Candidate) : State :=
  match s.openSeg l with
  | none => s
  | some (_, r) =>
    if c.frame ≤ r.first then s
    else
      match (s.lane l).queue.getLast? with
      | none => s.setQueue l [c]
      | some tail =>
        let front := (s.lane l).queue.dropLast
        if c.frame ≤ tail.frame + Config.mergeDistance then
          let s := if tail.movesForward c then s.handBack l tail.acc else s
          s.setQueue l (front ++ [tail.mergeInto c])
        else if front = [] then s.setQueue l [tail, c]
        else s

/-! ### The split (R89-R93) -/

/-- The fields R91 writes, from the closed segment as it stands after the close. -/
def Segment.opened (closed : Segment) (l : Lane) (p : ProfileNo) (prof : Profile) (f : Nat) (position : Int)
    (kind : CandidateKind) (span : Nat) (acc : Accum) : Segment :=
  { Segment.fresh l p with
    first := f
    origin := kind.origin
    anchorFrame := f
    anchorPosition := position
    pitch := closed.pitch
    perforations := addSaturating span 1
    acc := acc
    lift := closed.lift
    gain := closed.gain
    fade := closed.fade
    lamp := closed.lamp
    cadence := closed.cadence
    source := .inherited
    travelOffset := prof.travelOffset
    lateralOffset := prof.lateralOffset }

/-- A split at frame `f`: the open segment is closed at f − 1, settling if it was MEASURING, and a new one is opened at `f`. None is NO_SPACE (R89). The candidate has left the queue. -/
def State.split (s : State) (l : Lane) (f : Nat) (position : Int) (kind : CandidateKind) (span : Nat) (acc : Accum) :
    Option State :=
  match s.openSeg l, s.allocate l with
  | some (i, r), some (j, s) =>
    let s := (s.closeSeg i (f - 1) (r.pitchTo f position)).onSeg i Segment.bump
    let closed := (s.seg i).getD r
    let opened := closed.opened l r.profile (s.profile r.profile) f position kind span acc
    let pitch := opened.estimate (s.lane l).measure
    let s := s.install l j { opened with pitch := pitch } fun chain => chain ++ [j]
    let s := s.raise l .splitMade (some j)
    some (if (s.profile r.profile).windowSize ≤ opened.perforations then s.settle j pitch else s)
  | _, _ => none

/-- A split that may end NO_SPACE: then TABLE_FULL is raised with the open segment's slot and nothing else changes (R89). The mark says whether the split was made. -/
def State.splitOrFull (s : State) (l : Lane) (f : Nat) (position : Int) (kind : CandidateKind) (span : Nat) (acc : Accum) :
    State × Bool :=
  match s.split l f position kind span acc with
  | some t => (t, true)
  | none => (s.raise l .tableFull (s.openSlot l), false)

/-! ### Resolution (R84-R88) -/

/-- The PITCH test (R86). -/
def pitchTest (p : Profile) (r : Segment) (e : Candidate) (c : Nat) (x : Int) : Bool :=
  decide (r.pitch * p.pitchTolerance <
    (roundDiv (10 * (x - r.predicted e.frame)) (c - e.frame) - r.pitch).natAbs * 1000)

/-- The DRIFT test (R86). -/
def driftTest (p : Profile) (r : Segment) (c : Nat) (x : Int) : Bool :=
  decide (p.driftLimit < (x - r.predicted c).natAbs)

/-- The DENSITY test (R86). -/
def densityTest (p : Profile) (r : Segment) (e : Candidate) : Bool :=
  match r.luminance with
  | none => false
  | some lum => decide (2 ≤ e.acc.count) && decide (p.densityThreshold < ((e.acc.luminance : Int) - lum).natAbs)

/-- An EVALUATING entry, already out of the queue, is resolved by the three tests against the open segment with reference frame `c` taken at `x`: SPLIT or NO_SPACE when one holds, DISMISSED when none does (R86). -/
def State.resolveTests (s : State) (l : Lane) (e : Candidate) (c : Nat) (x : Int) : State × Bool :=
  match s.openSeg l with
  | none => (s, false)
  | some (_, r) =>
    let p := s.laneProfile l
    if pitchTest p r e c x || driftTest p r c x || densityTest p r e then
      s.splitOrFull l e.frame e.position e.kind e.span e.acc
    else (s.handBack l e.acc, false)

/-- An entry resolved before its span is complete: tested with a span of 2 or more, dismissed with less, and dismissed when ARMED (R87, R94). -/
def State.resolveEarly (s : State) (l : Lane) (e : Candidate) (c : Nat) (x : Int) : State :=
  if e.state = .evaluating ∧ 2 ≤ e.span then (s.resolveTests l e c x).1 else s.handBack l e.acc

/-- The head gives way to an ARMED second entry whose frame is the frame taken (R87, R88 step 1). -/
def State.earlyHead (s : State) (l : Lane) (n : Nat) : State :=
  match (s.lane l).queue with
  | [h, a] =>
    if h.state = .evaluating ∧ a.state = .armed ∧ a.frame = n then
      (s.setQueue l [a]).resolveEarly l h (((s.lane l).tracker.current).getD 0) (((s.lane l).tracker.lastPosition).getD 0)
    else s
  | _ => s

/-- The span count of an EVALUATING entry goes up at a frame taken (R85). -/
def Candidate.countFrame (e : Candidate) : Candidate :=
  if e.state = .evaluating then { e with span := addSaturating e.span 1 } else e

/-- The resolver's part of frame `n` taken at `position` (R88). The mark says whether a split opened a segment that already counts this frame. -/
def State.resolveFrame (s : State) (l : Lane) (n : Nat) (position : Int) : State × Bool :=
  let s := s.earlyHead l n
  match (s.lane l).queue with
  | [] => (s, false)
  | h :: rest =>
    if h.state = .armed ∧ h.frame = n then
      (s.setQueue l rest).splitOrFull l n position h.kind h.span h.acc
    else
      let counted := h.countFrame
      let waiting := rest.map Candidate.countFrame
      if counted.state = .evaluating ∧ Config.resolveSpan ≤ counted.span then
        (s.setQueue l waiting).resolveTests l counted n position
      else (s.setQueue l (counted :: waiting), false)

/-- The queued entries give way to a GAP, head first, with the last frame taken before the loss as reference (R94). -/
def State.resolveForGap (s : State) (l : Lane) (c : Nat) (x : Int) : State :=
  (s.lane l).queue.foldl (fun s e => s.resolveEarly l e c x) (s.setQueue l [])

/-! ### Routing (R83) -/

/-- The queue with a summary added to the candidate it falls under, the one with the greatest frame at or before `f`; none when there is no such candidate. A full candidate accumulator is left as it is (R83). -/
def routeToCandidate (f : Nat) (black white mean : Rgb Nat) : List Candidate → Option (List Candidate)
  | [] => none
  | e :: rest =>
    match routeToCandidate f black white mean rest with
    | some rest' => some (e :: rest')
    | none =>
      if e.frame ≤ f then
        some ((if e.acc.count < Config.summariesMax then { e with acc := e.acc.addSummary black white mean } else e) :: rest)
      else none

end Sys2Proof.Machine
end

