-- ==== Sys2Proof/Machine/Grading.lean ====
section
/-! DEFINITION. The grade engine: the tests and the taking of a SUMMARY, the density watch, and the completion of a computation (R83, R99-R109). -/

namespace Sys2Proof.Machine

/-! ### Taking a SUMMARY (R99, R100) -/

/-- The last four tests of R99, on the lane: the link status of the refusal, or none when the SUMMARY passes. -/
def State.summaryLaneTests (s : State) (l : Lane) (f : Nat) : Option LinkStatus :=
  let found : Option LinkStatus :=
    match s.find l f with
    | .found _ _ => none
    | _ => some .outOfRange
  match (s.lane l).reel.state with
  | .empty => some .noReel
  | .loaded => some .noReel
  | .closing => some .noReel
  | .ended => if s.isAhead l f then some .outOfRange else found
  | .scanning => if s.isAhead l f then some .refusedAhead else found
  | .paused => if s.isAhead l f then some .refusedAhead else found

/-- A statistic value is 0 to 4095 in each channel (R99). -/
def statisticsOk (c : Rgb Nat) : Bool := decide (c.r ≤ 4095) && decide (c.g ≤ 4095) && decide (c.b ≤ 4095)

/-- The candidate of the density watch: at the summary's frame, where the open segment's model predicts it (R102). -/
def densityCandidate (r : Segment) (current f : Nat) : Candidate :=
  { frame := f, position := r.predicted f, kind := .densityStep, state := .evaluating,
    span := min Config.countMax (current - f), acc := Accum.zero, evidence := { Evidence.none with density := true } }

/-- The density watch on a summary with these means, before it is routed (R102). -/
def State.densityWatch (s : State) (l : Lane) (f : Nat) (mean : Rgb Nat) : State :=
  match s.openSeg l with
  | none => s
  | some (_, r) =>
    if r.first ≤ f ∧ r.phase = .settled ∧ (s.lane l).queue = [] ∧
        ((s.lane l).reel.state = .scanning ∨ (s.lane l).reel.state = .paused) then
      match r.luminance with
      | none => s
      | some lum =>
        if (s.laneProfile l).densityThreshold < (((mean.total / 3 : Nat) : Int) - lum).natAbs then
          s.arrive l (densityCandidate r (((s.lane l).tracker.current).getD f) f)
        else s
    else s

/-- The segment that holds the frame takes the summary while it accumulates and holds fewer than 64 (R13); the end of a regrade is part of it (R109). -/
def State.addToSegment (s : State) (i : Slot) (r : Segment) (black white mean : Rgb Nat) : State :=
  if r.accumulates = true ∧ r.acc.count < Config.summariesMax then
    (s.accumulate i (r.acc.addSummary black white mean)).revise s i
  else s

/-- A summary is routed to a queued candidate or to the segment that holds its frame, and added (R83, R100). -/
def State.routeSummary (s : State) (l : Lane) (f : Nat) (black white mean : Rgb Nat) : State :=
  match routeToCandidate f black white mean (s.lane l).queue with
  | some q => s.setQueue l q
  | none =>
    match s.find l f with
    | .found i r => s.addToSegment i r black white mean
    | _ => s

/-- The pending link status is written (R133). -/
def State.setStatus (s : State) (x : LinkStatus) : State := s.onLookup fun u => { u with status := x }

/-- A SUMMARY is tested and taken or refused (R99, R100). -/
def State.takeSummary (s : State) (lane frame : Nat) (black white mean : Rgb Nat) : State :=
  if s.lookup.enabled = false then s.setStatus .disabled
  else if Config.frameMax < frame ∨ (statisticsOk black && statisticsOk white && statisticsOk mean) = false then
    s.setStatus .badFrame
  else
    match laneOf lane with
    | none => s.setStatus .badFrame
    | some l =>
      match s.summaryLaneTests l frame with
      | some status => s.setStatus status
      | none => ((s.densityWatch l frame mean).routeSummary l frame black white mean).setStatus .accepted

/-! ### Completion (R105-R107) -/

/-- Average white less average black of a channel (R105). -/
def channelSpread (k black white : Nat) : Int := (white / k : Nat) - (black / k : Nat)

/-- The gain of a channel whose spread is `spread` (R105). -/
def channelGain (p : Profile) (spread : Int) : Nat :=
  (clampTo 256 4096 (roundDiv (1024 * ((p.targetWhite : Int) - p.targetBlack)) spread.toNat)).toNat

/-- The lift of a channel with this average black and this gain (R105). -/
def channelLift (p : Profile) (average gain : Nat) : Int :=
  clampTo (-2048) 2047 ((p.targetBlack : Int) - roundDiv (average * gain : Nat) 1024)

/-- The spreads of the three channels. -/
def Accum.spreads (a : Accum) : Rgb Int := Rgb.zip (channelSpread a.count) a.black a.white

/-- A channel's spread is below 64 (R106). -/
def Accum.degenerate (a : Accum) : Bool :=
  decide (a.spreads.r < Config.spreadMin) || decide (a.spreads.g < Config.spreadMin) ||
  decide (a.spreads.b < Config.spreadMin)

/-- The computed grade (R105): gains, lifts and the profile's fade curve; lamp and cadence kept. -/
def Segment.computedGrade (r : Segment) (p : Profile) : Segment :=
  let gain := r.acc.spreads.map (channelGain p)
  { r with
    gain := gain
    lift := Rgb.zip (fun black g => channelLift p (black / r.acc.count) g) r.acc.black gain
    fade := p.fade
    source := .computed }

/-- The segment after a completion: its grade, settled luminance and phase, and a pending take granted; one revision increment (R105-R107). -/
def Segment.completed (r : Segment) (p : Profile) : Segment :=
  let graded := if r.acc.degenerate then r.defaultGrade p else r.computedGrade p
  ({ graded with
      luminance := some r.acc.luminance
      phase := .settled
      owner := if r.takePending then .console else r.owner
      takePending := false } : Segment).bump

/-- The notices of a completion (R106, R107). -/
def State.completionNotices (s : State) (i : Slot) (r : Segment) : State :=
  let s := s.raise r.lane .segmentSettled (some i)
  let s := if r.acc.degenerate then s.raise r.lane .gradeDefaulted (some i) else s
  if r.takePending then s.raisePart .takeGranted (some i) else s

/-- The engine's computation ends: the segment is written, the engine begins the next, the deferrals that wait on the segment are re-checked, and a RETIRING one may be freed (R107, R156). -/
def State.complete (s : State) : State :=
  match s.engine with
  | none => s
  | some i =>
    match s.seg i with
    | none => { s with engine := none }.engineBegin
    | some r =>
      let s := (s.putSeg i (some (r.completed (s.profile r.profile)))).completionNotices i r
      let s := { s with engine := none }.engineBegin
      (s.recheck fun e => e.awaits i).retire fun j => decide (j = i)

end Sys2Proof.Machine
end

