-- ==== Sys2Proof/Machine/Ownership.lean ====
section
/-! DEFINITION. The ownership unit: the console lease and the dropping of holds and pending takes (R119, R129-R131). -/

namespace Sys2Proof.Machine

/-- The reload that a good grading-link frame makes: RUNNING with the lease length, or STOPPED when that is 0 (R129). -/
def State.reloadLease (s : State) : State := { s with lease := if s.leaseLength = 0 then none else some s.leaseLength }

/-- A segment that an expiry or a FORCE_RELEASE changes: owned by the console, or with a take pending (R130, R131). -/
def Segment.heldByConsole (r : Segment) : Bool := decide (r.owner = .console) || r.takePending

/-- The slot's segment is such a one. -/
def State.heldByConsole (s : State) (i : Slot) : Bool :=
  match s.seg i with
  | some r => r.heldByConsole
  | none => false

/-- A CONSOLE owner becomes AUTO with revision +1; a pending take is cancelled with no change of revision (R130). -/
def Segment.dropHold (r : Segment) : Segment :=
  if r.owner = .console then ({ r with owner := .auto, takePending := false } : Segment).bump
  else { r with takePending := false }

/-- The holds and pending takes of the named slots are dropped; the notice is raised when one changed, and the RETIRING ones that changed are re-checked for freeing (R130, R131, R156). -/
def State.dropHolds (s : State) (named : Slot → Bool) (notice : PartKind) (slot : Option Slot) : State :=
  let changed := fun i => named i && s.heldByConsole i
  let t := { s with segments := Vector.ofFn fun i => if changed i then (s.seg i).map Segment.dropHold else s.seg i }
  if (List.finRange 160).any changed then (t.raisePart notice slot).retire changed else t

end Sys2Proof.Machine
end

