-- ==== Sys2Proof/Machine/ConsoleCommands.lean ====
section
/-! DEFINITION. The requests on one segment: TAKE, RELEASE, SET_GRADE, SET_OFFSET, SET_LAMP, SET_CADENCE, CUT, JOIN, REGRADE, RENEW, FORCE_RELEASE (chapter 7 and R108). -/

namespace Sys2Proof.Machine

/-- The slot and the record a request names, or BAD_SLOT or NOT_LIVE (R108, R117, R120, R121, R124, R127, R131). -/
def State.withSegment (s : State) (k : PortName) (slot : Nat) (act : Slot → Segment → State) : State :=
  match slotOf slot with
  | none => s.refuse k .badSlot
  | some i =>
    match s.seg i with
    | none => s.refuse k .notLive
    | some r => act i r

/-! ### TAKE (R117, R118) -/

/-- A segment taken at once: owner CONSOLE and one revision increment (R118). -/
def Segment.taken (r : Segment) : Segment := ({ r with owner := .console } : Segment).bump

/-- A REGRADING segment taken: the regrade is cancelled (R118). -/
def Segment.takenRegrading (r : Segment) : Segment :=
  ({ r with phase := .settled, acc := Accum.zero } : Segment).taken

/-- A queued COMPUTING segment taken: SETTLED with the grade in force and its settled luminance from the accumulator (R118). -/
def Segment.takenQueued (r : Segment) : Segment :=
  ({ r with phase := .settled, luminance := r.keptLuminance } : Segment).taken

/-- A queued COMPUTING segment is taken: it leaves the Compute Queue, and the deferrals that wait on it are re-checked (R111, R118). -/
def State.takeQueued (s : State) (i : Slot) (r : Segment) : State :=
  let t := { s.putSeg i (some r.takenQueued) with computeQueue := s.computeQueue.erase i }
  (t.raise r.lane .segmentSettled (some i)).recheck fun e => e.awaits i

/-- A TAKE that passes the tests, by the segment's phase (R118). -/
def State.takeSegment (s : State) (i : Slot) (r : Segment) : State :=
  match r.phase with
  | .measuring => (s.putSeg i (some r.taken)).ok .grading
  | .settled => (s.putSeg i (some r.taken)).ok .grading
  | .regrading => ((s.putSeg i (some r.takenRegrading)).raise r.lane .segmentSettled (some i)).ok .grading
  | .computing =>
    if s.engine = some i then
      (s.putSeg i (some { r with takePending := true })).reply .grading .acceptedPending .none []
    else (s.takeQueued i r).ok .grading

/-- TAKE (R117, R118). -/
def execTake (slot : Nat) (s : State) : Result :=
  s.unlessReset fun s => s.withSegment .grading slot fun i r =>
    if r.life = .retiring then s.refuse .grading .closing
    else if r.owner = .console then s.refuse .grading .already
    else if r.takePending then s.refuse .grading .already
    else s.takeSegment i r

/-! ### RELEASE, FORCE_RELEASE, RENEW (R120, R129, R131) -/

/-- A segment handed back: owner AUTO and one revision increment (R120). -/
def Segment.handedBack (r : Segment) : Segment := ({ r with owner := .auto } : Segment).bump

/-- RELEASE (R120). -/
def execRelease (slot : Nat) (s : State) : Result :=
  s.unlessReset fun s => s.withSegment .grading slot fun i r =>
    if r.owner = .auto then s.refuse .grading .notOwner
    else
      (((s.putSeg i (some r.handedBack)).raisePart .handback (some i)).retire fun j => decide (j = i)).ok .grading

/-- FORCE_RELEASE (R131): slot 255 names ALL. -/
def execForceRelease (slot : Nat) (s : State) : Result :=
  s.unlessReset fun s =>
    (if slot = Config.allCode then (s.dropHolds (fun _ => true) .forcedRelease none).ok .control
     else
       s.withSegment .control slot fun i r =>
         if r.heldByConsole then (s.dropHolds (fun j => decide (j = i)) .forcedRelease (some i)).ok .control
         else s.refuse .control .notOwner)

/-- RENEW (R129): no record changes. Where the row stands for the arrival of the frame as well, that is, where it does not complete a RENEW that LINK_TRANSACTION dispatched and reloaded the lease for, it reloads the lease (log entry 4). -/
def execRenew (s : State) : Result :=
  s.unlessReset fun s => (if s.grading.dispatched = some .renew then s else s.reloadLease).ok .grading

/-! ### The SET requests (R121, R122) -/

/-- The three tests of R121 that the SET requests share: the slot, the life and the owner. -/
def State.withOwned (s : State) (slot : Nat) (act : Slot → Segment → State) : State :=
  s.withSegment .grading slot fun i r => if r.owner = .console then act i r else s.refuse .grading .notOwner

/-- A console write: the record as written, with one revision increment whatever the values were (R18). -/
def State.consoleWrite (s : State) (i : Slot) (r : Segment) : State := (s.putSeg i (some r.bump)).ok .grading

/-- A lift is −2048 to +2047 (R121). -/
def liftOk (x : Int) : Bool := decide (-2048 ≤ x) && decide (x ≤ 2047)

/-- A gain is 256 to 4096 (R121). -/
def gainOk (n : Nat) : Bool := decide (256 ≤ n) && decide (n ≤ 4096)

/-- The seven fields of SET_GRADE tested in order: the fade curve, or the lowest-numbered field out of range (R121). -/
def checkGrade (lift : Rgb Int) (gain : Rgb Nat) (fade : Nat) : Except Nat (Option Nat) :=
  if liftOk lift.r = false then .error 1
  else if liftOk lift.g = false then .error 2
  else if liftOk lift.b = false then .error 3
  else if gainOk gain.r = false then .error 4
  else if gainOk gain.g = false then .error 5
  else if gainOk gain.b = false then .error 6
  else
    match fadeOf fade with
    | none => .error 7
    | some curve => .ok curve

/-- SET_GRADE (R121). -/
def execSetGrade (slot : Nat) (lift : Rgb Int) (gain : Rgb Nat) (fade : Nat) (s : State) : Result :=
  s.unlessReset fun s => s.withOwned slot fun i r =>
    match checkGrade lift gain fade with
    | .error field => s.refuseValue .grading field
    | .ok curve => s.consoleWrite i { r with lift := lift, gain := gain, fade := curve, source := .console }

/-- SET_OFFSET (R122); that the travel offset is named where both fields are bad is read from the order of the fields (log entry 32). -/
def execSetOffset (slot : Nat) (along across : Int) (s : State) : Result :=
  s.unlessReset fun s => s.withOwned slot fun i r =>
    if along < -4000 ∨ 4000 < along then s.refuseValue .grading 1
    else if across < -2000 ∨ 2000 < across then s.refuseValue .grading 2
    else s.consoleWrite i { r with travelOffset := along, lateralOffset := across }

/-- SET_LAMP (R122). -/
def execSetLamp (slot lamp : Nat) (s : State) : Result :=
  s.unlessReset fun s => s.withOwned slot fun i r =>
    if 1023 < lamp then s.refuseValue .grading 1 else s.consoleWrite i { r with lamp := lamp }

/-- SET_CADENCE (R122). -/
def execSetCadence (slot cadence : Nat) (s : State) : Result :=
  s.unlessReset fun s => s.withOwned slot fun i r =>
    if cadenceOk cadence = false then s.refuseValue .grading 1 else s.consoleWrite i { r with cadence := cadence }

/-! ### CUT (R124-R126) -/

/-- The last frame a segment covers: its own, or its lane tracker's current frame while it is open (R7). -/
def State.lastCovered (s : State) (r : Segment) : Nat := r.last.getD (((s.lane r.lane).tracker.current).getD r.first)

/-- The second part of a CUT of `a` at frame `f`, where `a` covers up to `last` (R125). -/
def Segment.secondPart (a : Segment) (p : ProfileNo) (f last : Nat) : Segment :=
  { a with
    life := .live
    revision := 1
    first := f
    origin := .operatorCut
    phase := .settled
    anchorFrame := f
    anchorPosition := a.predicted f
    perforations := min Config.countMax (last - f + 1)
    coasts := 0
    acc := Accum.zero
    takePending := false
    profile := p }

/-- A CUT of segment `a` in slot `i` at frame `f`, with `j` the slot allocated and `s` the state after the allocation (R125, R126). -/
def State.cutSegment (s : State) (i j : Slot) (a : Segment) (f : Nat) : State :=
  let b := a.secondPart (((s.lane a.lane).reel.load.map ReelLoad.profile).getD a.profile) f (s.lastCovered a)
  let t := s.putSeg i (some ({ a with last := some (f - 1) } : Segment).bump)
  let t := t.install a.lane j b (insertAfter i j)
  let t := if a.last = none then t.setQueue a.lane ((s.lane a.lane).queue.filter fun e => decide (f < e.frame)) else t
  t.recheck fun e => decide (e.lane = a.lane)

/-- CUT (R124, R125): the reply carries the slot of the second part. -/
def execCut (slot frame : Nat) (s : State) : Result :=
  s.unlessReset fun s => s.withSegment .grading slot fun i a =>
    if a.life = .retiring then s.refuse .grading .closing
    else if a.phase ≠ .settled then s.refuse .grading .busy
    else if frame ≤ a.first ∨ s.lastCovered a < frame then s.refuse .grading .badFrameNumber
    else
      match s.allocate a.lane with
      | none => s.refuse .grading .noSpace
      | some (j, t) => (t.cutSegment i j a frame).ok .grading [wire 1 j.val]

/-! ### JOIN (R127, R128) -/

/-- The survivor of a JOIN of `a` with its successor `b` (R128). -/
def Segment.joined (a b : Segment) : Segment :=
  ({ a with
      last := b.last
      coasts := addSaturating a.coasts b.coasts
      perforations := addSaturating a.perforations b.perforations } : Segment).bump

/-- A JOIN that passes the tests (R128). -/
def State.joinSegments (s : State) (i j : Slot) (a b : Segment) : State :=
  ((s.putSeg i (some (a.joined b))).freeSlot j).recheck fun e => decide (e.lane = a.lane)

/-- JOIN (R127, R128). -/
def execJoin (slot : Nat) (s : State) : Result :=
  s.unlessReset fun s => s.withSegment .grading slot fun i a =>
    if a.life = .retiring then s.refuse .grading .closing
    else
      match (successorOf i (s.chain a.lane)).bind fun j => (s.seg j).map fun b => (j, b) with
      | none => s.refuse .grading .noSuccessor
      | some (j, b) =>
        if a.phase ≠ .settled ∨ b.phase ≠ .settled then s.refuse .grading .busy
        else if a.owner ≠ b.owner ∨ a.takePending = true ∨ b.takePending = true then s.refuse .grading .ownerDiffers
        else (s.joinSegments i j a b).ok .grading

/-! ### REGRADE (R108) -/

/-- A segment that enters REGRADING: accumulator cleared, source INHERITED, one revision increment (R108). -/
def Segment.regraded (r : Segment) : Segment :=
  ({ r with phase := .regrading, acc := Accum.zero, source := .inherited } : Segment).bump

/-- REGRADE (R108). -/
def execRegrade (k : PortName) (slot : Nat) (s : State) : Result :=
  s.unlessReset fun s => s.withSegment k slot fun i r =>
    if r.life = .retiring then s.refuse k .closing
    else if r.owner = .console then s.refuse k .notOwner
    else if r.phase = .regrading then s.refuse k .already
    else if r.phase ≠ .settled then s.refuse k .busy
    else (s.putSeg i (some r.regraded)).ok k

end Sys2Proof.Machine
end

