-- ==== Sys2Proof/Machine/Tracking.lean ====
section
/-! DEFINITION. The lane tracker: frames taken, the watches, the first lock, loss, relock and the end of the reel (R41-R63, R67-R69). -/

namespace Sys2Proof.Machine

/-! ### A frame taken (R46, R51, R68) -/

/-- The step from one frame to the next (R46). -/
def stepOf (p : Nat) : Int := roundDiv p 10

/-- The half-width of the capture window (R46). -/
def captureHalf (p w : Nat) : Int := roundDiv (p * w : Nat) 1000

/-- The coast deadline is set from the last accepted position with the open segment's pitch as it stands (R46). -/
def State.setDeadline (s : State) (l : Lane) : State :=
  let p := s.openPitch l
  let w := (s.laneProfile l).captureWindow
  s.onTracker l fun t =>
    { t with deadline := t.lastPosition.map fun x => x + roundDiv (p * (100 + w) : Nat) 1000 }

/-- The lamp driver loads the lamp value of the open segment (R51, R169). -/
def State.loadLamp (s : State) (l : Lane) : State :=
  match s.openSeg l with
  | some (_, r) => s.setDuty l r.lamp
  | none => s

/-- The segment table and the model unit take frames into the open segment: its counts go up, a MEASURING one that reaches the window size settles, and otherwise takes the running estimate (R11, R12, R67, R68, R69). The revision is the operation's. -/
def State.countFrames (s : State) (l : Lane) (perforations coasts : Nat) : State :=
  match s.openSeg l with
  | none => s
  | some (i, r) =>
    let r : Segment :=
      { r with perforations := addSaturating r.perforations perforations, coasts := addSaturating r.coasts coasts }
    let pitch := r.estimate (s.lane l).measure
    if r.phase = .measuring then
      if (s.profile r.profile).windowSize ≤ r.perforations then (s.putSeg i (some r)).settle i pitch
      else s.putSeg i (some { r with pitch := pitch })
    else s.putSeg i (some r)

/-- The one revision increment of a frame taken, for the segment that was open before it and still is; a segment closed by a split was incremented there (R18, log entry 8). -/
def State.reviseOpen (s before : State) (l : Lane) : State :=
  match before.openSlot l with
  | some i => if ((s.seg i).bind Segment.last).isNone then s.revise before i else s
  | none => s

/-- Frame `n` is taken at `position`, accepted or synthesised, and handed to the blocks of R51 in the order of R68: measure point, resolver, segment table and model unit, then the tracker's frame and deadline, the lamp and the lookup unit. A synthesised frame adds to the coast count of the segment that holds it at the end (log entry 7). -/
def State.takeFrame (before : State) (l : Lane) (n : Nat) (position : Int) (accepted : Bool) : State :=
  let s := if accepted then before.setMeasure l (some { frame := n, position := position }) else before
  let (s, counted) := s.resolveFrame l n position
  let s := s.countFrames l (if counted then 0 else 1) (if accepted then 0 else 1)
  let s := s.reviseOpen before l
  let s := s.onTracker l fun t => { t with current := some n, lastPosition := some position }
  ((s.setDeadline l).loadLamp l).recheckFrame before l

/-! ### The end of the reel (R58, R59) -/

/-- Entry to ENDED (R59): queue emptied, open segment closed, tracker and reel ENDED, lamp dark, RUNOUT raised, and the lane's deferrals dealt with as R144 gives. -/
def State.enterEnded (before : State) (l : Lane) : State :=
  let slot := before.openSlot l
  let s := (before.teardownQueue l).closeOpen l
  let s := match slot with
    | some i => s.revise before i
    | none => s
  let s := s.onLane l fun d =>
    { d with
      reel := { d.reel with state := .ended }
      tracker := { d.tracker with state := .ended, coastRun := 0, drift := none, pitchRun := none, relock := [] }
      duty := 0 }
  let s := s.raise l .runout slot
  s.dispose fun e =>
    if e.lane = l ∧ e.reason = .ahead then .answer (s.plainAnswer e.tag e.lane e.frame .outOfRange)
    else if (e.lane = l ∧ e.reason = .candidate) ∨ s.awaitsSettled before e = true then s.recheckEntry e
    else .keep e

/-- The end of the frame range or the position range: TRAVEL_RANGE, then entry to ENDED (R58). -/
def State.endOfRange (s : State) (l : Lane) : State := (s.raise l .travelRange (s.openSlot l)).enterEnded l

/-! ### The watches (R61-R63) -/

/-- A candidate of a watch, with the span count it has at arrival (R79, section 5.2). -/
def watchCandidate (current frame : Nat) (position : Int) (kind : CandidateKind) (evidence : Evidence) : Candidate :=
  { frame := frame, position := position, kind := kind, state := .evaluating, span := min Config.countMax (current - frame),
    acc := Accum.zero, evidence := evidence }

/-- The drift watch on an accepted perforation (R63). -/
def State.driftWatch (s : State) (l : Lane) (r : Segment) (n : Nat) (position : Int) : State :=
  if (position - r.predicted n).natAbs ≤ (s.laneProfile l).driftLimit then s.onTracker l fun t => { t with drift := none }
  else
    match (s.lane l).tracker.drift with
    | none => s.onTracker l fun t => { t with drift := some { count := 1, frame := n, position := position } }
    | some d =>
      if 2 ≤ d.count then
        (s.onTracker l fun t => { t with drift := none }).arrive l
          (watchCandidate n d.frame d.position .drift { Evidence.none with drift := true })
      else s.onTracker l fun t => { t with drift := some { d with count := d.count + 1 } }

/-- The watches on perforation `n` accepted at `position`; `interval` is the accepted interval, if the frame before was accepted too (R61, R62). -/
def State.watch (s : State) (l : Lane) (n : Nat) (position : Int) (previous : Option Int) : State :=
  match s.openSeg l with
  | none => s
  | some (_, r) =>
    if r.phase = .measuring ∨ (s.lane l).queue ≠ [] then
      s.onTracker l fun t => { t with drift := none, pitchRun := none }
    else
      match previous with
      | none => s.driftWatch l r n position
      | some x =>
        if consistent r.pitch (s.laneProfile l).pitchTolerance x position then
          (s.onTracker l fun t => { t with pitchRun := none }).driftWatch l r n position
        else
          match (s.lane l).tracker.pitchRun with
          | none => (s.onTracker l fun t => { t with pitchRun := some n }).driftWatch l r n position
          | some f =>
            (s.onTracker l fun t => { t with pitchRun := none, drift := none }).arrive l
              (watchCandidate n f (r.predicted f) .pitchStep { Evidence.none with pitch := true })

/-! ### Following the film (R46-R49) -/

/-- A PERF in LOCKED or COASTING: accepted inside the capture window, ignored outside it (R47); past the frame range the lane ends (R58). -/
def State.acceptPerf (s : State) (l : Lane) (position : Int) : State :=
  match (s.lane l).tracker.current, (s.lane l).tracker.lastPosition with
  | some c, some x =>
    let p := s.openPitch l
    if (position - (x + stepOf p)).natAbs ≤ (captureHalf p (s.laneProfile l).captureWindow).natAbs then
      if Config.frameMax < c + 1 then s.endOfRange l
      else
        let previous := if (s.lane l).tracker.coastRun = 0 then some x else none
        ((s.takeFrame l (c + 1) position true).onTracker l fun t => { t with state := .locked, coastRun := 0 }).watch l
          (c + 1) position previous
    else s
  | _, _ => s

/-- Entry to LOST (R49). -/
def State.enterLost (s : State) (l : Lane) : State :=
  (s.onTracker l fun t => { t with state := .lost, relock := [], drift := none, pitchRun := none }).raise l .laneLost
    (s.openSlot l)

/-- While travel `T` is at or past the coast deadline, frames are synthesised, until the coast run reaches the coast limit or the range ends (R48, R49, R58). The bound is the coast limit: each frame adds 1 to the coast run. -/
def State.synthesise (l : Lane) (T : Int) : Nat → State → State
  | 0, s => s
  | bound + 1, s =>
    match (s.lane l).tracker.current, (s.lane l).tracker.lastPosition, (s.lane l).tracker.deadline with
    | some c, some x, some d =>
      if T < d ∨ T < x then s
      else if Config.frameMax < c + 1 ∨ Config.positionMax < x + stepOf (s.openPitch l) then s.endOfRange l
      else
        let s := (s.takeFrame l (c + 1) (x + stepOf (s.openPitch l)) false).onTracker l fun t =>
          { t with state := .coasting, coastRun := t.coastRun + 1 }
        if (s.laneProfile l).coastLimit ≤ (s.lane l).tracker.coastRun then s.enterLost l
        else State.synthesise l T bound s
    | _, _, _ => s

/-! ### Threading (R43-R45) -/

/-- One perforation applied to a three-perforation test (R43). -/
def threadTest (p t : Nat) (held : List Int) (position : Int) : TestStep :=
  match held with
  | [] => .progress [position]
  | [a] => if consistent p t a position then .progress [a, position] else .progress [position]
  | a :: b :: _ => if consistent p t b position then .success a b position else .progress [position]

/-- The START segment of a lane's reel with its first perforation at `a` (R29, R44, R66). -/
def startSegment (l : Lane) (d : ReelLoad) (prof : Profile) (a : Int) : Segment :=
  { Segment.fresh l d.profile with
    origin := .start
    anchorPosition := a
    pitch := prof.nominalPitch
    perforations := 3
    fade := prof.fade
    lamp := prof.defaultLamp
    cadence := if d.cadence = 0 then prof.cadence else d.cadence
    travelOffset := prof.travelOffset
    lateralOffset := prof.lateralOffset
    source := .profile }

/-- The thread test succeeds with `a`, `b`, `c`: the first lock, or TABLE_FULL when no slot is free (R44, R45). -/
def State.firstLock (before : State) (l : Lane) (a c : Int) : State :=
  match before.allocate l, (before.lane l).reel.load with
  | some (i, s), some d =>
    let r := startSegment l d (s.profile d.profile) a
    let s := s.install l i r fun chain => chain ++ [i]
    let s := s.onTracker l fun t =>
      { t with state := .locked, current := some 2, lastPosition := some c, coastRun := 0, relock := [] }
    let s := (s.setMeasure l (some { frame := 2, position := c })).setDeadline l
    let s := (s.raise l .lockAcquired (some i)).loadLamp l
    s.recheckFrame before l
  | _, _ => (before.onTracker l fun t => { t with relock := [] }).raise l .tableFull none

/-- A PERF in THREADING (R43). -/
def State.threadPerf (s : State) (l : Lane) (position : Int) : State :=
  let prof := s.laneProfile l
  match threadTest prof.nominalPitch prof.pitchTolerance (s.lane l).tracker.relock position with
  | .progress held => s.onTracker l fun t => { t with relock := held }
  | .success a _ c => s.firstLock l a c

/-! ### Loss and relock (R52-R57) -/

/-- The end of a relock on the tracker (R56), with LANE_RELOCKED after a loss. -/
def State.endRelock (s : State) (l : Lane) (wasLost : Bool) : State :=
  let s := s.onTracker l fun t =>
    { t with state := .locked, coastRun := 0, drift := none, pitchRun := none, relock := [] }
  if wasLost then s.raise l .laneRelocked (s.openSlot l) else s

/-- A relock with no frame missing: three frames taken in turn (R55). -/
def State.relockInPlace (s : State) (l : Lane) (n : Nat) (p0 p1 p2 : Int) : State :=
  ((s.takeFrame l n p0 true).takeFrame l (n + 1) p1 true).takeFrame l (n + 2) p2 true

/-- A relock past missing frames: the queue gives way, the GAP split is made or ends NO_SPACE, and the three frames are handed on in the one operation (R56, R94, log entry 9). -/
def State.relockGap (before : State) (l : Lane) (n c : Nat) (x p0 p2 : Int) : State :=
  let s := before.setMeasure l (some { frame := n + 2, position := p2 })
  let s := s.resolveForGap l c x
  let (s, made) := s.splitOrFull l n p0 .gap 2 Accum.zero
  let s := if made then s else s.countFrames l 3 0
  let s := s.reviseOpen before l
  let s := s.onTracker l fun t => { t with current := some (n + 2), lastPosition := some p2 }
  ((s.setDeadline l).loadLamp l).recheckFrame before l

/-- A relock test succeeds with `p0`, `p1`, `p2`: the frames are numbered from the distance travelled (R54). -/
def State.relock (s : State) (l : Lane) (p0 p1 p2 : Int) : State :=
  match (s.lane l).tracker.current, (s.lane l).tracker.lastPosition with
  | some c, some x =>
    let steps := (roundHalfUp (10 * (p0 - x)) (s.openPitch l)).toNat
    let n := c + max 1 steps
    let wasLost := decide ((s.lane l).tracker.state = .lost)
    if Config.frameMax < n + 2 then s.endOfRange l
    else if n = c + 1 then (s.relockInPlace l n p0 p1 p2).endRelock l wasLost
    else (s.relockGap l n c x p0 p2).endRelock l wasLost
  | _, _ => s

/-- A PERF in LOST or RELOCKING: ignored up to half a step past the last frame taken, else applied to the relock test (R53). -/
def State.relockPerf (s : State) (l : Lane) (position : Int) : State :=
  let p := s.openPitch l
  if position ≤ ((s.lane l).tracker.lastPosition).getD 0 + roundDiv p 20 then s
  else
    match threadTest p (s.laneProfile l).pitchTolerance (s.lane l).tracker.relock position with
    | .progress held => s.onTracker l fun t => { t with relock := held }
    | .success a b c => s.relock l a b c

/-! ### Gate words (R42) -/

/-- A word is taken only while the reel is SCANNING and the tracker in one of five states (R42). -/
def State.takesWords (s : State) (l : Lane) : Bool :=
  decide ((s.lane l).reel.state = .scanning) &&
    (match (s.lane l).tracker.state with
     | .threading => true
     | .locked => true
     | .coasting => true
     | .lost => true
     | .relocking => true
     | .idle => false
     | .paused => false
     | .ended => false)

/-- A malformed or out-of-range word that is taken raises TRANSPORT_FAULT and does nothing else (R42). -/
def State.faultWord (s : State) (l : Lane) : State :=
  if s.takesWords l then s.raise l .transportFault none else s

/-- The check of a word's position before it acts (R42). -/
def State.checkedWord (s : State) (l : Lane) (position : Nat) (act : State → State) : State :=
  if s.takesWords l then
    if Config.positionMax < position then s.raise l .transportFault none else act s
  else s

/-- A PERF word (R42, R47, R53). -/
def State.perfWord (s : State) (l : Lane) (position strength : Nat) : State :=
  s.checkedWord l position fun s =>
    if strength % 16 < (s.laneProfile l).minStrength then s
    else
      match (s.lane l).tracker.state with
      | .threading => s.threadPerf l position
      | .locked => s.acceptPerf l position
      | .coasting => s.acceptPerf l position
      | .lost => s.relockPerf l position
      | .relocking => s.relockPerf l position
      | _ => s

/-- The candidate of a SPLICE word (R50). -/
def spliceCandidate (current : Nat) (position : Int) (kind : CandidateKind) : Candidate :=
  { frame := current + 1, position := position, kind := kind, state := .armed, span := 0, acc := Accum.zero,
    evidence := { Evidence.none with sensor := true } }

/-- A SPLICE in LOCKED or COASTING hands the resolver a candidate for the next frame; a merge that moves the head's frame re-checks the lane's CANDIDATE deferrals (R50, R97). -/
def State.spliceCandidateArrives (before : State) (l : Lane) (position : Int) (kind : CandidateKind) : State :=
  match (before.lane l).tracker.current with
  | none => before
  | some c =>
    if Config.frameMax ≤ c then before
    else
      let s := (before.arrive l (spliceCandidate c position kind)).reviseOpen before l
      s.recheck fun e =>
        decide (e.lane = l) && decide (e.reason = .candidate) && s.headMoved before l

/-- A SPLICE word; byte 1 is 0 for TAPE and 1 for CEMENT, and any other makes it malformed (R42, R50). -/
def State.spliceWord (s : State) (l : Lane) (position kind : Nat) : State :=
  if 1 < kind then s.faultWord l
  else
    s.checkedWord l position fun s =>
      match (s.lane l).tracker.state with
      | .locked => s.spliceCandidateArrives l position (if kind = 0 then .spliceTape else .spliceCement)
      | .coasting => s.spliceCandidateArrives l position (if kind = 0 then .spliceTape else .spliceCement)
      | _ => s

/-- A TRAVEL word (R48). -/
def State.travelWord (s : State) (l : Lane) (position : Nat) : State :=
  s.checkedWord l position fun s =>
    match (s.lane l).tracker.state with
    | .locked => State.synthesise l position (s.laneProfile l).coastLimit s
    | .coasting => State.synthesise l position (s.laneProfile l).coastLimit s
    | _ => s

/-- A RUNOUT word (R59). -/
def State.runoutWord (s : State) (l : Lane) (position : Nat) : State := s.checkedWord l position fun s => s.enterEnded l

end Sys2Proof.Machine
end

