-- ==== Sys2Proof/Machine/GateCommands.lean ====
section
/-! DEFINITION. The gate words: PERF, SPLICE, TRAVEL, RUNOUT, MALFORMED_GATE_WORD (R42, R47-R59). -/

namespace Sys2Proof.Machine

/-- PERF (R43, R47, R53). -/
def execPerf (l : Lane) (position strength : Nat) (s : State) : Result :=
  s.unlessReset fun s => s.perfWord l position strength

/-- SPLICE (R50). -/
def execSplice (l : Lane) (position kind : Nat) (s : State) : Result :=
  s.unlessReset fun s => s.spliceWord l position kind

/-- TRAVEL (R48, R49). -/
def execTravel (l : Lane) (position : Nat) (s : State) : Result :=
  s.unlessReset fun s => s.travelWord l position

/-- RUNOUT (R59). -/
def execRunout (l : Lane) (position : Nat) (s : State) : Result :=
  s.unlessReset fun s => s.runoutWord l position

/-- MALFORMED_GATE_WORD (R42): raw bytes; where they spell a word of one of the four kinds, that word acts (log entry 23). -/
def execMalformedGateWord (l : Lane) (bytes : List Byte) (s : State) : Result :=
  s.unlessReset fun s =>
    (match gateWordOf bytes with
     | .malformed => s.faultWord l
     | .perf position strength => s.perfWord l position strength
     | .splice position kind => s.spliceWord l position kind
     | .travel position => s.travelWord l position
     | .runout position => s.runoutWord l position)

end Sys2Proof.Machine
end

