-- ==== Sys2Proof/Machine/LinkCommands.lean ====
section
/-! DEFINITION. The control and grading link interface: transactions, BUSY, ignored requests, request checks and dispatch (LINK_TRANSACTION, SET_LINK). -/

namespace Sys2Proof

/-- A transaction is BUSY when READY was inactive as its chip select fell (R174). RESET_PART overtakes grading-link transactions only (R178). -/
def Opening.isBusy (o : Opening) (k : PortName) (ready : Bool) : Bool :=
  match o with
  | .ready => !ready
  | .busy => true
  | .resetPart => decide (k = .control)
  | .resetLine => false

end Sys2Proof

namespace Sys2Proof.Machine

/-- A request that is ignored leaves its mark on the reply in the slot (R172). -/
def Reply.marked (r : Reply) : Reply := { r with ignored := true }

/-- The frame a transaction shifts out: the reply in the slot, or NO_REPLY (R172). -/
def Link.outgoing (x : Link) : List Byte := ((x.slot).getD Reply.noReply).bytes x.order

/-- The delivery step: a reply shifted out whole leaves the slot (R172). What goes out after the frame's last byte, when the master clocks on, the spec leaves open; `shifted` records the frame's own bytes only, by the model's choice (log entry 34). -/
def Link.deliver (x : Link) (count : Nat) : Link :=
  let out := x.outgoing
  { x with slot := if out.length ≤ count then none else x.slot, shifted := out.take count }

/-- A reply that the link interface places at once, with reason 0 and no payload (R173). -/
def Link.answerFrame (x : Link) (status : ReplyStatus) : Link :=
  { x with slot := some { status := status, reason := .none, payload := [], ignored := false } }

/-- The request step, with `order` the byte order the transaction ran in (R172, R173). -/
def Link.takeRequest (x : Link) (k : PortName) (bytes : List Byte) : Link :=
  if carriesRequest bytes = false then x
  else
    match x.slot with
    | some r => { x with slot := some r.marked }
    | none =>
      match checkRequest k x.order bytes with
      | .badFrame => x.answerFrame .badFrame
      | .notPermitted => x.answerFrame .notPermitted
      | .dispatch c => { x with dispatched := some c }

/-- What a transaction does on its link (R172-R174, R178). That a grading transaction which RESET_PART overtook marks RESET_DONE only when it carried a request is the model's choice (log entry 31). -/
def Link.transact (x : Link) (k : PortName) (o : Opening) (bytes : List Byte) : Link :=
  if o.isBusy k x.ready then { x with shifted := (Reply.busy.bytes x.order).take bytes.length }
  else
    match o with
    | .resetPart => if carriesRequest bytes then { x with slot := x.slot.map Reply.marked } else x
    | _ => (x.deliver bytes.length).takeRequest k bytes

/-- What a transaction does when chip select rises: a grading-link frame with a good check reloads the lease, whatever becomes of it (R129, R172). -/
def State.transactLink (s : State) (k : PortName) (o : Opening) (bytes : List Byte) : State :=
  (if decide (k = .grading) && goodCheck bytes then s.reloadLease else s).onLink k fun x => x.transact k o bytes

/-- LINK_TRANSACTION (R172): one that met the RESET line active is ignored (R178, log entry 19). -/
def execLinkTransaction (k : PortName) (o : Opening) (bytes : List Byte) (s : State) : Result :=
  s.unlessReset fun s => if o = .resetLine then s else s.transactLink k o bytes

/-- SET_LINK (R176): writes the byte order of the link that carried it. -/
def execSetLink (k : PortName) (order : Nat) (s : State) : Result :=
  s.unlessReset fun s =>
    (match byteOrderOf order with
     | none => s.refuseValue k 1
     | some b => (s.onLink k fun x => { x with order := b }).ok k)

end Sys2Proof.Machine
end

