-- ==== Sys2Proof/Machine/Answering.lean ====
section
/-! DEFINITION. The lookup unit's own operations: accepting a LOOKUP, expiry of a deferral, and disabling the link (R135-R138, R142, R150). -/

namespace Sys2Proof.Machine

/-- An answer joins the tail of the Answer Queue (R146). -/
def State.pushAnswer (s : State) (a : Answer) : State := s.onLookup fun u => { u with answers := u.answers ++ [a] }

/-- An accepted LOOKUP is answered or deferred by its classification; with 12 entries held it is answered BUSY (R136, R138). -/
def State.placeLookup (s : State) (tag : Nat) (l : Lane) (f : Nat) : State :=
  match s.classify l f with
  | .plain status => s.pushAnswer (s.plainAnswer tag l f status)
  | .source i r => s.pushAnswer (s.answerFrom tag l f .settled i r)
  | .defer reason =>
    if Config.deferredMax ≤ s.lookup.deferred.length then s.pushAnswer (s.plainAnswer tag l f .busy)
    else
      s.onLookup fun u =>
        { u with
          deferred := u.deferred ++ [{ tag := tag, lane := l, frame := f, reason := reason, remaining := s.limit }] }

/-- A LOOKUP is tested and accepted or refused (R135). -/
def State.takeLookup (s : State) (tag lane frame : Nat) : State :=
  let answered (x : LinkStatus) (s : State) : State := s.onLookup fun u => { u with status := x }
  if s.lookup.enabled = false then answered .disabled s
  else if Config.frameMax < frame then answered .badFrame s
  else
    match laneOf lane with
    | none => answered .badFrame s
    | some l =>
      if Config.reservationMax ≤ s.reservations then answered .refusedFull s
      else answered .accepted (s.placeLookup tag l frame)

/-- The answer of an expired entry, with the slot it was built from (R142). -/
def State.provisionalAnswer (s : State) (e : Deferral) : Answer × Option Slot :=
  match s.provisionalSource e with
  | some (i, r) => (s.answerFrom e.tag e.lane e.frame .provisional i r, some i)
  | none => (s.plainAnswer e.tag e.lane e.frame .provisional, none)

/-- The expiry of an entry: it leaves the Deferred Set and is answered PROVISIONAL, the notice is raised, and an awaited RETIRING segment is re-checked (R142, R156). -/
def State.expireEntry (s : State) (e : Deferral) : State :=
  let made := s.provisionalAnswer e
  let t := s.onLookup fun u => { u with deferred := u.deferred.erase e, answers := u.answers ++ [made.1] }
  (t.raisePart .provisionalIssued made.2).retire fun i => e.awaits i

/-- The oldest entry whose last tick comes expires; with none there is no expiry (R141, R142, log entry 12). -/
def State.expire (s : State) : State :=
  match s.lookup.deferred.find? Deferral.lastTick with
  | none => s
  | some e => s.expireEntry e

/-- The expiries of one tick, one after the other in acceptance order (R141). -/
def State.expireEach (s : State) (due : List Deferral) : State := due.foldl State.expireEntry s

/-- 1 is subtracted from the remaining ticks of every entry (R141). -/
def State.countDown (s : State) : State :=
  s.onLookup fun u => { u with deferred := u.deferred.map fun e => { e with remaining := e.remaining - 1 } }

/-- A deferral tick: the entries that it brings to 0 expire in it, and the others have 1 subtracted (R141). -/
def State.deferralTick (s : State) : State := (s.expireEach (s.lookup.deferred.filter Deferral.lastTick)).countDown

/-- The link is disabled: entries and answers are discarded, and the RETIRING segments that entries awaited are re-checked (R150, R156). -/
def State.disableLink (s : State) : State :=
  (s.onLookup fun u => { u with enabled := false, deferred := [], answers := [], status := .none }).retire fun i =>
    s.lookup.deferred.any fun e => e.awaits i

end Sys2Proof.Machine
end

