-- ==== Sys2Proof/Machine/LookupCommands.lean ====
section
/-! DEFINITION. The lookup link: LOOKUP, SUMMARY, LOOKUP_LINK_TRANSACTION (R99, R100, R135, R136, R147, R150, R175). -/

namespace Sys2Proof.Machine

/-- LOOKUP (R135, R136). -/
def execLookup (tag lane frame : Nat) (s : State) : Result :=
  s.unlessReset fun s => s.takeLookup tag lane frame

/-- SUMMARY (R99, R100). -/
def execSummary (lane frame : Nat) (black white mean : Rgb Nat) (s : State) : Result :=
  s.unlessReset fun s => s.takeSummary lane frame black white mean

/-- The byte order a transaction runs in: the one in force when its chip select fell (R150). -/
def LookupUnit.orderAt (u : LookupUnit) (o : LookupOpening) : ByteOrder :=
  match o with
  | .otherOrder => flipOrder u.order
  | _ => u.order

/-- The head answer that a transaction shifts out whole or in part: none where the EMPTY marker goes out (R147, R175). -/
def LookupUnit.headFor (u : LookupUnit) (o : LookupOpening) : Option Answer :=
  match o with
  | .plain => u.answers.head?
  | _ => none

/-- The bytes a transaction offers: the link status byte, then the head answer or the EMPTY marker (R147). For a transaction that a disable or a reset overtook, the status byte as it stands after that and the EMPTY marker are the model's choice: the spec says only that it delivers nothing (log entry 29). -/
def LookupUnit.outgoing (u : LookupUnit) (o : LookupOpening) : List Byte :=
  BitVec.ofNat 8 u.status.code ::
    (match u.headFor o with
     | some a => a.bytes (u.orderAt o)
     | none => emptyMarker)

/-- The delivery of a transaction that shifted `count` bytes: a head answer shifted out whole leaves the queue, and the status becomes NONE (R147). An overtaken transaction removes nothing (R150, R178); that `shifted` then records the status and the EMPTY marker is the model's choice (log entry 29), and so is that it records nothing past the answer's last byte when the pipeline clocks on (log entry 34). -/
def LookupUnit.deliver (u : LookupUnit) (o : LookupOpening) (count : Nat) : LookupUnit :=
  let out := u.outgoing o
  { u with
    answers := if (u.headFor o).isSome ∧ out.length ≤ count then u.answers.tail else u.answers
    status := .none
    shifted := out.take count }

/-- A whole request is taken by the block that owns it; in a transaction that a disable overtook it is refused with DISABLED (R147, R150, R178). -/
def State.takeWhole (s : State) (o : LookupOpening) (request : Instr) : State :=
  if o = .overtaken then s.setStatus .disabled
  else
    match request with
    | .lookup tag lane frame => s.takeLookup tag lane frame
    | .summary lane frame black white mean => s.takeSummary lane frame black white mean
    | _ => s

/-- The request of a transaction, if it carries one (R147, R175). -/
def State.takeShiftedIn (s : State) (o : LookupOpening) (order : ByteOrder) (bytes : List Byte) : State :=
  if carriesRequest bytes = false then s
  else
    match lookupRequest order bytes with
    | none => s.setStatus .badFrame
    | some request => s.takeWhole o request

/-- What a transaction does when chip select rises: delivery, then status NONE, then the request (R147). -/
def State.transactLookup (s : State) (o : LookupOpening) (bytes : List Byte) : State :=
  (s.onLookup fun u => u.deliver o bytes.length).takeShiftedIn o (s.lookup.orderAt o) bytes

/-- LOOKUP_LINK_TRANSACTION (R147): one that met the RESET line active is ignored (R178, log entry 19). -/
def execLookupLinkTransaction (o : LookupOpening) (bytes : List Byte) (s : State) : Result :=
  s.unlessReset fun s => if o = .resetLine then s else s.transactLookup o bytes

end Sys2Proof.Machine
end

