-- ==== Sys2Proof/Machine/PartCommands.lean ====
section
/-! DEFINITION. Power-on and the resets of the whole part (POWER_ON, RESET_LINE, RESET_PART). -/

namespace Sys2Proof.Machine

/-- The state a reset of the part leaves: power-on values, with the Stock Profile Table and the Answer Layout kept (R178). The queue of commands that wait and the level of the RESET line lie outside the part. -/
def State.partReset (s : State) : State :=
  { State.reset with
    profiles := s.profiles
    lookup := { LookupUnit.reset with layout := s.lookup.layout }
    resetHeld := s.resetHeld
    pending := s.pending }

/-- POWER_ON (R5, R36): every record, queue, line and setting takes its power-on value; a RESET line held from outside stays held (log entry 19). -/
def execPowerOn (s : State) : Result := .next { State.reset with resetHeld := s.resetHeld, pending := s.pending }

/-- RESET_LINE (R178): the RESET line is asserted, and released again, as the table's row says, unless `held` (log entry 19). -/
def execResetLine (s : State) (held : Bool := false) : Result := .next { s.partReset with resetHeld := held }

/-- RESET_PART (R178): the effect of the RESET line; its own reply is the RESET_DONE that stands in both slots. -/
def execResetPart (s : State) : Result := s.unlessReset State.partReset

end Sys2Proof.Machine
end

