-- ==== Sys2Proof/Machine/ProfileCommands.lean ====
section
/-! DEFINITION. The profile commands: SET_PROFILE, INVALIDATE_PROFILE, READ_PROFILE (R35-R39). -/

namespace Sys2Proof.Machine

/-- The default of field 7, window size (R36). -/
def windowDefault : Nat := 12

/-- The default of field 10, target black (R36). -/
def blackDefault : Nat := 256

/-- The default of field 11, target white (R36). -/
def whiteDefault : Nat := 3840

/-- A given mark and a value: none when the mark is neither 0 nor 1, which puts the field out of range (11.7). -/
def givenOr (mark value default : Nat) : Option Nat :=
  if mark = 0 then some default else if mark = 1 then some value else none

/-- A value inside a range, if it is. -/
def inRange (lo hi n : Nat) : Option Nat := if lo ≤ n ∧ n ≤ hi then some n else none

/-- A signed value inside a range, if it is. -/
def inIntRange (lo hi x : Int) : Option Int := if lo ≤ x ∧ x ≤ hi then some x else none

/-- A field's value, or its number for the BAD_VALUE refusal. -/
def orField {α : Type} (number : Nat) (value : Option α) : Except Nat α :=
  match value with
  | some x => .ok x
  | none => .error number

/-- The sixteen fields tested in field order: the profile they give, or the lowest-numbered field out of range (R36, R37). -/
def checkProfile (f : ProfileFields) : Except Nat Profile := do
  let gauge ← orField 1 (Gauge.ofCode f.gauge)
  let pitch ← orField 2 (inRange 20000 80000 f.nominalPitch)
  let tolerance ← orField 3 (inRange 1 100 f.pitchTolerance)
  let window ← orField 4 (inRange 5 45 f.captureWindow)
  let strength ← orField 5 (inRange 0 15 f.minStrength)
  let coast ← orField 6 (inRange 1 8 f.coastLimit)
  let size ← orField 7 ((givenOr f.windowMark f.windowSize windowDefault).bind (inRange 8 32))
  let drift ← orField 8 (inRange 5 500 f.driftLimit)
  let density ← orField 9 (inRange 1 1023 f.densityThreshold)
  let black ← orField 10 ((givenOr f.blackMark f.targetBlack blackDefault).bind (inRange 0 4095))
  let white ← orField 11 ((givenOr f.whiteMark f.targetWhite whiteDefault).bind (inRange (black + 1) 4095))
  let fade ← orField 12 (fadeOf f.fade)
  let lamp ← orField 13 (inRange 0 1023 f.defaultLamp)
  let along ← orField 14 (inIntRange (-4000) 4000 f.travelOffset)
  let across ← orField 15 (inIntRange (-2000) 2000 f.lateralOffset)
  let cadence ← orField 16 (if cadenceOk f.cadence then some f.cadence else none)
  return { valid := true, gauge := gauge, nominalPitch := pitch, pitchTolerance := tolerance, captureWindow := window,
           minStrength := strength, coastLimit := coast, windowSize := size, driftLimit := drift,
           densityThreshold := density, targetBlack := black, targetWhite := white, fade := fade, defaultLamp := lamp,
           travelOffset := along, lateralOffset := across, cadence := cadence }

/-- A write of one stock profile record. -/
def State.setProfile (s : State) (p : ProfileNo) (f : Profile → Profile) : State :=
  { s with profiles := update s.profiles p f }

/-- The number test and the use test of a profile command (R37, R38). -/
def State.withFreeProfile (s : State) (number : Nat) (act : ProfileNo → State) : State :=
  match profileOf number with
  | none => s.refuse .control .badProfile
  | some p => if s.inUse p ≠ 0 then s.refuse .control .inUse else act p

/-- SET_PROFILE (R37). -/
def execSetProfile (number : Nat) (fields : ProfileFields) (s : State) : Result :=
  s.unlessReset fun s => s.withFreeProfile number fun p =>
    match checkProfile fields with
    | .error field => s.refuseValue .control field
    | .ok profile => (s.setProfile p fun _ => profile).ok .control

/-- INVALIDATE_PROFILE (R38): the fields keep their values. -/
def execInvalidateProfile (number : Nat) (s : State) : Result :=
  s.unlessReset fun s => s.withFreeProfile number fun p => (s.setProfile p fun q => { q with valid := false }).ok .control

/-- The READ_PROFILE reply payload, 28 bytes (11.7). -/
def State.profileReport (s : State) (p : ProfileNo) : List WireField :=
  let q := s.profile p
  [wire 1 p.val, wire 1 q.valid.toNat, wire 1 (s.inUse p), wire 1 q.gauge.code, wire 3 q.nominalPitch,
   wire 1 q.pitchTolerance, wire 1 q.captureWindow, wire 1 q.minStrength, wire 1 q.coastLimit, wire 1 q.windowSize,
   wire 2 q.driftLimit, wire 2 q.densityThreshold, wire 2 q.targetBlack, wire 2 q.targetWhite, wireOpt 1 q.fade,
   wire 2 q.defaultLamp, wire 2 q.travelOffset, wire 2 q.lateralOffset, wire 1 q.cadence]

/-- READ_PROFILE (R39). -/
def execReadProfile (number : Nat) (s : State) : Result :=
  s.unlessReset fun s =>
    (match profileOf number with
     | none => s.refuse .control .badProfile
     | some p => s.ok .control (s.profileReport p))

end Sys2Proof.Machine
end

