-- ==== Sys2Proof/Machine/ReadCommands.lean ====
section
/-! DEFINITION. The reads: READ_LANE, READ_SEGMENT, LIST_REEL, READ_NOTICES, with their reply layouts (R24, R25, R40, R164, 11.7). -/

namespace Sys2Proof.Machine

/-! ### READ_LANE (R40) -/

/-- The four fields of the loaded reel: tag 0 and the others 255 in EMPTY (11.7). -/
def Reel.loadReport (q : Reel) : List WireField :=
  match q.load with
  | none => [wire 4 0, wire 1 255, wire 1 255, wire 1 255]
  | some d => [wire 4 d.tag, wire 1 d.gauge.code, wire 1 d.profile.val, wire 1 d.cadence]

/-- The head fields of the Candidate Queue, 0 when it is empty (11.7). -/
def headReport : List Candidate → List WireField
  | [] => [wire 3 0, wire 1 0, wire 1 0, wire 2 0, wire 1 0]
  | h :: _ =>
    [wire 3 h.frame, wire 1 h.kind.origin.code, wire 1 h.state.code, wire 2 h.span, wire 1 h.evidence.code]

/-- The last accepted position on the wire; absent is all ones. -/
def positionReport (x : Option Int) : WireField := wire 4 (x.getD (-1))

/-- The READ_LANE reply payload, 31 bytes (11.7). -/
def State.laneReport (s : State) (l : Lane) : List WireField :=
  let d := s.lane l
  [wire 1 l.val, wire 1 d.reel.state.code] ++ d.reel.loadReport ++
  [wire 1 d.reel.chain.length, wire 1 d.tracker.state.code, wireOpt 3 d.tracker.current,
   positionReport d.tracker.lastPosition, wire 1 d.tracker.coastRun,
   wire 1 ((d.tracker.drift.map DriftRun.count).getD 0 : Nat), wire 1 d.queue.length] ++
  headReport d.queue ++ [wire 2 d.duty]

/-- READ_LANE (R40). -/
def execReadLane (lane : Nat) (s : State) : Result :=
  s.unlessReset fun s =>
    (match laneOf lane with
     | none => s.refuse .control .badLane
     | some l => s.ok .control (s.laneReport l))

/-! ### READ_SEGMENT (R25) -/

/-- The reply payload of a LIVE or RETIRING slot, 56 bytes (11.7). -/
def Segment.report (r : Segment) (i : Slot) : List WireField :=
  [wire 1 i.val, wire 1 r.lane.val, wire 1 r.life.code, wire 4 r.revision, wire 3 r.first, wireOpt 3 r.last,
   wire 1 r.origin.code, wire 1 r.phase.code, wire 3 r.anchorFrame, wire 4 r.anchorPosition, wire 3 r.pitch,
   wire 2 r.perforations, wire 2 r.coasts, wire 2 r.travelOffset, wire 2 r.lateralOffset, wire 2 r.lift.r,
   wire 2 r.lift.g, wire 2 r.lift.b, wire 2 r.gain.r, wire 2 r.gain.g, wire 2 r.gain.b, wireOpt 1 r.fade, wire 2 r.lamp,
   wire 1 r.cadence, wire 1 r.source.code, wireOpt 2 r.luminance, wire 1 r.acc.count, wire 1 r.owner.code,
   wire 1 r.takePending.toNat, wire 1 r.profile.val]

/-- The reply payload of a FREE slot: life FREE and every other field 0, with last frame, fade curve and settled luminance absent (R1, log entry 14). -/
def freeReport : List WireField :=
  [wire 1 0, wire 1 0, wire 1 0, wire 4 0, wire 3 0, wireOpt 3 none, wire 1 0, wire 1 0, wire 3 0, wire 4 0, wire 3 0,
   wire 2 0, wire 2 0, wire 2 0, wire 2 0, wire 2 0, wire 2 0, wire 2 0, wire 2 0, wire 2 0, wire 2 0, wireOpt 1 none,
   wire 2 0, wire 1 0, wire 1 0, wireOpt 2 none, wire 1 0, wire 1 0, wire 1 0, wire 1 0]

/-- READ_SEGMENT (R25). -/
def execReadSegment (k : PortName) (slot : Nat) (s : State) : Result :=
  s.unlessReset fun s =>
    (match slotOf slot with
     | none => s.refuse k .badSlot
     | some i =>
       match s.seg i with
       | none => s.ok k freeReport
       | some r => s.ok k (r.report i))

/-! ### LIST_REEL (R24) -/

/-- One entry of a LIST_REEL reply, 11 bytes (11.7). -/
def Segment.entry (r : Segment) (i : Slot) : List WireField :=
  [wire 1 i.val, wire 3 r.first, wireOpt 3 r.last, wire 1 r.phase.code, wire 1 r.owner.code,
   wire 1 r.takePending.toNat, wire 1 r.life.code]

/-- The slots of a chain that a LIST_REEL from a position carries: up to 8 (R24). -/
def State.listed (s : State) (l : Lane) (position : Nat) : List Slot := ((s.chain l).drop position).take 8

/-- The LIST_REEL reply payload (11.7). -/
def State.reelReport (s : State) (l : Lane) (position : Nat) : List WireField :=
  let entries := (s.listed l position).filterMap fun i => (s.seg i).map fun r => r.entry i
  [wire 1 l.val, wire 1 (s.lane l).reel.state.code, wire 1 (s.chain l).length, wire 1 position,
   wire 1 entries.length] ++ entries.flatten

/-- LIST_REEL (R24). -/
def execListReel (k : PortName) (lane position : Nat) (s : State) : Result :=
  s.unlessReset fun s =>
    (match laneOf lane with
     | none => s.refuse k .badLane
     | some l => s.ok k (s.reelReport l position))

/-! ### READ_NOTICES (R164) -/

/-- The flags of a lane and of the part, kinds 0 to 15 in order. -/
def State.noticeList (s : State) (l : Lane) : List NoticeFlag := (s.lane l).notices.toList ++ s.partNotices.toList

/-- The READ_NOTICES reply payload, 22 bytes (11.7). -/
def State.noticeReport (s : State) (l : Lane) : List WireField :=
  [wire 1 l.val, wire 3 (bitsValue ((s.noticeList l).map NoticeFlag.raised))] ++
  ((s.noticeList l).map fun f => wireOpt 1 (f.latest.map Fin.val)) ++
  [wire 1 (bitsValue ((List.finRange 4).map s.laneFlagged)),
   wire 1 (bitsValue (s.attnC :: s.attnG :: (List.finRange 4).map s.holdLine))]

/-- READ_NOTICES (R164). -/
def execReadNotices (k : PortName) (lane : Nat) (s : State) : Result :=
  s.unlessReset fun s =>
    (match laneOf lane with
     | none => s.refuse k .badLane
     | some l => s.ok k (s.noticeReport l))

end Sys2Proof.Machine
end

