-- ==== Sys2Proof/Machine/ReelCommands.lean ====
section
/-! DEFINITION. The reel commands: LOAD_REEL, START, PAUSE, RESUME, UNLOAD, LANE_RESET (chapters 2 and 9). -/

namespace Sys2Proof.Machine

/-- The lane of a reel command, or BAD_LANE (R27). -/
def State.withLane (s : State) (lane : Nat) (act : Lane → State) : State :=
  match laneOf lane with
  | none => s.refuse .control .badLane
  | some l => act l

/-! ### LOAD_REEL (R28) -/

/-- The profile test and the gauge test of LOAD_REEL, and the loading (R28). -/
def State.loadProfile (s : State) (l : Lane) (tag : Nat) (gauge : Gauge) (profile cadence : Nat) : State :=
  match profileOf profile with
  | none => s.refuse .control .profileInvalid
  | some p =>
    if (s.profile p).valid = false then s.refuse .control .profileInvalid
    else if (s.profile p).gauge ≠ gauge then s.refuse .control .gaugeMismatch
    else
      (s.onReel l fun _ =>
        { state := .loaded, load := some { tag := tag, gauge := gauge, profile := p, cadence := cadence }, chain := [] }).ok
        .control

/-- LOAD_REEL (R28). -/
def execLoadReel (lane tag gauge profile cadence : Nat) (s : State) : Result :=
  s.unlessReset fun s => s.withLane lane fun l =>
    if (s.lane l).reel.state ≠ .empty then s.refuse .control .notEmpty
    else
      match Gauge.ofCode gauge with
      | none => s.refuseValue .control 3
      | some g => if cadenceOk cadence = false then s.refuseValue .control 5 else s.loadProfile l tag g profile cadence

/-! ### START, PAUSE, RESUME (R29-R31) -/

/-- The tracker goes to THREADING at START, with the values it has after a reset of the lane (R41). -/
def State.startLane (s : State) (l : Lane) : State :=
  s.onLane l fun d =>
    { d with
      reel := { d.reel with state := .scanning }
      tracker := { Tracker.reset with state := .threading }
      duty := (s.laneProfile l).defaultLamp }

/-- START (R29). -/
def execStart (lane : Nat) (s : State) : Result :=
  s.unlessReset fun s => s.withLane lane fun l =>
    match (s.lane l).reel.state with
    | .loaded => (s.startLane l).ok .control
    | .empty => s.refuse .control .noReel
    | .closing => s.refuse .control .closing
    | .scanning => s.refuse .control .wrongState
    | .paused => s.refuse .control .wrongState
    | .ended => s.refuse .control .wrongState

/-- The tracker is stopped at PAUSE: its runs are cleared and everything else is kept (R30, R57). -/
def State.pauseLane (s : State) (l : Lane) : State :=
  s.onLane l fun d =>
    { d with
      reel := { d.reel with state := .paused }
      tracker := { d.tracker with state := .paused, drift := none, pitchRun := none } }

/-- PAUSE (R30). -/
def execPause (lane : Nat) (s : State) : Result :=
  s.unlessReset fun s => s.withLane lane fun l =>
    match (s.lane l).reel.state with
    | .scanning => (s.pauseLane l).ok .control
    | .empty => s.refuse .control .noReel
    | .closing => s.refuse .control .closing
    | .loaded => s.refuse .control .wrongState
    | .paused => s.refuse .control .wrongState
    | .ended => s.refuse .control .wrongState

/-- The tracker is restarted at RESUME: RELOCKING over a chain, THREADING without one; relock progress is cleared (R31, R57). -/
def State.resumeLane (s : State) (l : Lane) : State :=
  let threading := decide (s.chain l = [])
  s.onLane l fun d =>
    { d with
      reel := { d.reel with state := .scanning }
      tracker := { d.tracker with state := if threading then .threading else .relocking, relock := [] }
      duty := if threading then (s.laneProfile l).defaultLamp else d.duty }

/-- RESUME (R31). -/
def execResume (lane : Nat) (s : State) : Result :=
  s.unlessReset fun s => s.withLane lane fun l =>
    match (s.lane l).reel.state with
    | .paused => (s.resumeLane l).ok .control
    | .empty => s.refuse .control .noReel
    | .closing => s.refuse .control .closing
    | .loaded => s.refuse .control .wrongState
    | .scanning => s.refuse .control .wrongState
    | .ended => s.refuse .control .wrongState

/-! ### UNLOAD (R32, R152, R153) -/

/-- A REGRADING segment of a closing reel stops regrading: SETTLED, accumulator cleared, grade kept (R153). The revision is the operation's. -/
def Segment.stopRegrade (r : Segment) : Segment := { r with phase := .settled, acc := Accum.zero }

/-- Part 4 of a closing, on one slot of the chain (R153). -/
def State.stopRegradeAt (s : State) (i : Slot) : State :=
  match s.seg i with
  | none => s
  | some r =>
    if r.phase = .regrading then (s.putSeg i (some r.stopRegrade)).raise r.lane .segmentSettled (some i) else s

/-- Parts 1 to 5 of a closing (R152): tracker, queue, open segment, regrades, then every segment RETIRING, the reel CLOSING and the lamp dark. Each segment whose answered fields changed has its revision raised once (log entry 8). -/
def State.beginClosing (before : State) (l : Lane) : State :=
  let s := before.onTracker l fun t =>
    { t with state := .idle, coastRun := 0, drift := none, pitchRun := none, relock := [] }
  let s := (s.teardownQueue l).closeOpen l
  let s := (s.chain l).foldl State.stopRegradeAt s
  let s := (s.chain l).foldl (fun s i => s.revise before i) s
  let s := (s.chain l).foldl (fun s i => s.onSeg i fun r => { r with life := .retiring }) s
  s.onLane l fun d => { d with reel := { d.reel with state := .closing }, duty := 0 }

/-- Part 6 of a closing (R144, R145). -/
def State.closeDeferrals (s : State) (l : Lane) : State :=
  s.dispose fun e =>
    if e.lane ≠ l then .keep e
    else
      match e.reason with
      | .segment _ => s.recheckClosing e
      | _ => .answer (s.plainAnswer e.tag e.lane e.frame .closed)

/-- The closing of a reel, whole (R152). -/
def State.closeReel (s : State) (l : Lane) : State :=
  (((s.beginClosing l).closeDeferrals l).retireChain (fun _ => true) l).endClosing l

/-- UNLOAD from LOADED (R32). -/
def State.unloadLoaded (s : State) (l : Lane) : State :=
  (s.onReel l fun q => { q with state := .empty, load := none }).raise l .reelRetired none

/-- UNLOAD (R32, R152). -/
def execUnload (lane : Nat) (s : State) : Result :=
  s.unlessReset fun s => s.withLane lane fun l =>
    match (s.lane l).reel.state with
    | .empty => s.refuse .control .noReel
    | .closing => s.refuse .control .closing
    | .loaded => (s.unloadLoaded l).ok .control
    | .scanning => (s.closeReel l).ok .control
    | .paused => (s.closeReel l).ok .control
    | .ended => (s.closeReel l).ok .control

/-! ### LANE_RESET (R33, R34) -/

/-- What LANE_RESET leaves of a lane once its chain is freed: notice flags clear with their latest-slot values kept, policy kept. -/
def LaneState.cleared (d : LaneState) : LaneState :=
  { d with
    reel := { state := .empty, load := none, chain := [] }
    tracker := Tracker.reset
    measure := none
    queue := []
    duty := 0
    notices := d.notices.map fun f => { f with raised := false } }

/-- LANE_RESET of one lane: its deferrals are answered CLOSED, its records freed in chain order, its film-side state cleared, and the engine begins the next computation (R33, R34). -/
def State.laneReset (s : State) (l : Lane) : State :=
  let t := s.dispose fun e =>
    if e.lane = l then .answer (s.plainAnswer e.tag e.lane e.frame .closed) else .keep e
  (((s.chain l).foldl State.freeSlot t).onLane l LaneState.cleared).engineBegin

/-- LANE_RESET (R33). -/
def execLaneReset (lane : Nat) (s : State) : Result :=
  s.unlessReset fun s => s.withLane lane fun l => (s.laneReset l).ok .control

end Sys2Proof.Machine
end

