-- ==== Sys2Proof/Machine/SettingsCommands.lean ====
section
/-! DEFINITION. The settings of the part: SET_LAYOUT, SET_LOOKUP_LINK, SET_POLICY, SET_TIMERS, CLEAR_NOTICE (R149, R150, R165, R166, R177). -/

namespace Sys2Proof.Machine

/-! ### SET_LAYOUT (R149) -/

/-- The field codes of a list, or the position of the first unknown one, counted from `position`. -/
def layoutOf (position : Nat) : List Nat → Except Nat (List FieldCode)
  | [] => .ok []
  | n :: rest =>
    match FieldCode.ofCode n with
    | none => .error position
    | some c => (layoutOf (position + 1) rest).map fun cs => c :: cs

/-- SET_LAYOUT (R149): BAD_VALUE names 0 for the count (R173). -/
def execSetLayout (codes : List Nat) (s : State) : Result :=
  s.unlessReset fun s =>
    (if s.lookup.enabled then s.refuse .control .linkEnabled
     else if codes = [] ∨ Config.layoutMax < codes.length then s.refuseValue .control 0
     else
       match layoutOf 1 codes with
       | .error position => s.refuseValue .control position
       | .ok layout => (s.onLookup fun u => { u with layout := layout }).ok .control)

/-! ### SET_LOOKUP_LINK (R150) -/

/-- The table of R150, once both fields hold permitted values. -/
def State.setLookupLink (s : State) (enable : Bool) (order : ByteOrder) : State :=
  if s.lookup.enabled then
    if enable then if order = s.lookup.order then s.ok .control else s.refuse .control .linkEnabled
    else (s.disableLink.onLookup fun u => { u with order := order }).ok .control
  else (s.onLookup fun u => { u with order := order, enabled := enable }).ok .control

/-- SET_LOOKUP_LINK (R150): R150 states no order for the tests of its two fields; that enable is tested before the byte order, so that BAD_VALUE names 1 where both are bad, is the model's choice (log entry 32). -/
def execSetLookupLink (enable order : Nat) (s : State) : Result :=
  s.unlessReset fun s =>
    (match yesNoOf enable with
     | none => s.refuseValue .control 1
     | some e =>
       match byteOrderOf order with
       | none => s.refuseValue .control 2
       | some o => s.setLookupLink e o)

/-! ### SET_POLICY (R166) -/

/-- The kind of a number 0 to 15. -/
def kindOf (n : Nat) : Option KindName :=
  if h : n < 11 then some (.laneKind ⟨n, h⟩) else if h : n - 11 < 5 then some (.partKind ⟨n - 11, h⟩) else none

/-- The policy of a lane kind is written on the named lanes. -/
def State.setLanePolicy (s : State) (lanes : List Lane) (k : Fin 11) (p : Policy) : State :=
  lanes.foldl (fun s l => s.onLane l fun d => { d with policies := update d.policies k fun _ => p }) s

/-- The policy of a part-wide kind is written. -/
def State.setPartPolicy (s : State) (k : Fin 5) (p : Policy) : State :=
  { s with partPolicies := update s.partPolicies k fun _ => p }

/-- The value tests of R166 after the lane test, in order, and the write; notice enable and route are one test of R166, and that notice enable is named where both are bad is read from their order in its row (log entry 32). -/
def State.writePolicy (s : State) (enable route hold : Nat) (partWide : Bool) (write : Policy → State) : State :=
  match yesNoOf enable with
  | none => s.refuseValue .control 3
  | some e =>
    match Route.ofCode route with
    | none => s.refuseValue .control 4
    | some r =>
      match yesNoOf hold with
      | none => s.refuseValue .control 5
      | some h =>
        if partWide && h then s.refuseValue .control 5
        else (write { enable := e, route := r, hold := h }).ok .control

/-- SET_POLICY (R166): the lane field of a part-wide kind is not tested. -/
def execSetPolicy (lane kind enable route hold : Nat) (s : State) : Result :=
  s.unlessReset fun s =>
    (match kindOf kind with
     | none => s.refuseValue .control 2
     | some (.partKind k) => s.writePolicy enable route hold true fun p => s.setPartPolicy k p
     | some (.laneKind k) =>
       match lanesOf lane with
       | none => s.refuse .control .badLane
       | some lanes => s.writePolicy enable route hold false fun p => s.setLanePolicy lanes k p)

/-! ### SET_TIMERS (R177, R129) -/

/-- The three settings are written together; a lease length of 0 stops the timer at once (R129, R177). -/
def State.setTimers (s : State) (tick : TickSelect) (limit lease : Nat) : State :=
  { s with tick := tick, limit := limit, leaseLength := lease, lease := if lease = 0 then none else s.lease }

/-- SET_TIMERS (R177). -/
def execSetTimers (tick limit lease : Nat) (s : State) : Result :=
  s.unlessReset fun s =>
    (match TickSelect.ofCode tick with
     | none => s.refuseValue .control 1
     | some t =>
       if limit < 1 ∨ 255 < limit then s.refuseValue .control 2
       else if Config.leaseMax < lease then s.refuseValue .control 3
       else (s.setTimers t limit lease).ok .control)

/-! ### CLEAR_NOTICE (R165) -/

/-- Whether a link may clear a kind with this policy (R165). -/
def mayClear (link : PortName) (p : Policy) : Bool :=
  match link with
  | .control => true
  | .grading => decide (p.route ≠ .control)

/-- Kind `k` is asked for in a mask: bit k is one. -/
def asked (mask k : Nat) : Bool := mask.testBit k

/-- A lane's flags after a clear: those asked for that the link may clear, with latest-slot values kept. -/
def LaneState.clearNotices (d : LaneState) (link : PortName) (mask : Nat) : LaneState :=
  { d with
    notices := Vector.ofFn fun k =>
      if asked mask k.val && mayClear link d.policies[k.val] then { d.notices[k.val] with raised := false }
      else d.notices[k.val] }

/-- The part-wide flags after a clear. -/
def State.clearPartNotices (s : State) (link : PortName) (mask : Nat) : State :=
  { s with
    partNotices := Vector.ofFn fun k =>
      if asked mask (11 + k.val) && mayClear link s.partPolicies[k.val] then { s.partNotices[k.val] with raised := false }
      else s.partNotices[k.val] }

/-- The mask of kinds cleared, or that would have been had they been set: over ALL, the union of the lanes (R165). -/
def State.clearedMask (s : State) (link : PortName) (lanes : List Lane) (mask : Nat) : Nat :=
  bitsValue
    (((List.finRange 11).map fun k => asked mask k.val && lanes.any fun l => mayClear link (s.lane l).policies[k.val]) ++
     ((List.finRange 5).map fun k => asked mask (11 + k.val) && mayClear link s.partPolicies[k.val]))

/-- The flags asked for are cleared on the named lanes and on the part (R165). -/
def State.clearNotices (s : State) (link : PortName) (lanes : List Lane) (mask : Nat) : State :=
  (lanes.foldl (fun s l => s.onLane l fun d => d.clearNotices link mask) s).clearPartNotices link mask

/-- CLEAR_NOTICE (R165): the reply carries the mask of kinds cleared. R165 states no order for its two tests; that the lane is tested before the mask is the model's choice (log entry 30). -/
def execClearNotice (link : PortName) (lane mask : Nat) (s : State) : Result :=
  s.unlessReset fun s =>
    (match lanesOf lane with
     | none => s.refuse link .badLane
     | some lanes =>
       if 65536 ≤ mask then s.refuseValue link 2
       else (s.clearNotices link lanes mask).ok link [wire 3 (s.clearedMask link lanes mask)])

end Sys2Proof.Machine
end

