-- ==== Sys2Proof/Machine/TimeCommands.lean ====
section
/-! DEFINITION. The time base and the engine's end: GRADE_COMPLETION, DEFERRAL_TICK, DEFERRAL_EXPIRY, LEASE_TICK, LEASE_EXPIRY, and what is due on an empty queue (R105-R107, R129, R130, R141, R142). -/

namespace Sys2Proof.Machine

/-- GRADE_COMPLETION (R107): with the engine IDLE no computation is there to end (log entry 13). -/
def execGradeCompletion (s : State) : Result := s.unlessReset State.complete

/-- DEFERRAL_TICK (R141), with the expiries that come at it. -/
def execDeferralTick (s : State) : Result := s.unlessReset State.deferralTick

/-- DEFERRAL_EXPIRY (R142): the tick that brings an entry to 0, named by its effect on the oldest such entry; with no entry at its last tick none can come about (log entry 12). -/
def execDeferralExpiry (s : State) : Result := s.unlessReset State.expire

/-- The lease expiry acts on every segment of every lane, and the timer becomes STOPPED (R130). -/
def State.leaseExpiry (s : State) : State := ({ s with lease := none }.dropHolds (fun _ => true) .leaseExpired none)

/-- A lease tick on a RUNNING timer: 1 is subtracted from its count, and a tick that brings the count to 0 is the expiry (R129). -/
def State.leaseTick (s : State) : State :=
  match s.lease with
  | none => s
  | some n => if n ≤ 1 then s.leaseExpiry else { s with lease := some (n - 1) }

/-- LEASE_TICK (R129). -/
def execLeaseTick (s : State) : Result := s.unlessReset State.leaseTick

/-- LEASE_EXPIRY (R130): the tick that brings the count to 0, named by its effect; with a count above 1 or a STOPPED timer none can come about (log entry 11). -/
def execLeaseExpiry (s : State) : Result :=
  s.unlessReset fun s =>
    (match s.lease with
     | some n => if n ≤ 1 then s.leaseExpiry else s
     | none => s)

/-- What is due inside the part when no command waits: a request that a link has dispatched, the control link's first (log entry 2). -/
def dueEvent (s : State) : Option Instr :=
  match s.control.dispatched with
  | some c => some c
  | none => s.grading.dispatched

end Sys2Proof.Machine
end

