-- ==== Sys2Proof/Machine/Dispatch.lean ====
section
/-! DEFINITION. One arm per command of the part. -/

namespace Sys2Proof.Machine

/-- The effect of a command on everything but the queue of commands that wait. -/
def exec (i : Instr) (s : State) : Host.Outcome State Fault Refusal :=
  match i with
  | .powerOn => Sys2Proof.Machine.execPowerOn s
  | .resetLine held => Sys2Proof.Machine.execResetLine s held
  | .linkTransaction link opening bytes => Sys2Proof.Machine.execLinkTransaction link opening bytes s
  | .loadReel lane tag gauge profile cadence => Sys2Proof.Machine.execLoadReel lane tag gauge profile cadence s
  | .start lane => Sys2Proof.Machine.execStart lane s
  | .pause lane => Sys2Proof.Machine.execPause lane s
  | .resume lane => Sys2Proof.Machine.execResume lane s
  | .unload lane => Sys2Proof.Machine.execUnload lane s
  | .laneReset lane => Sys2Proof.Machine.execLaneReset lane s
  | .setProfile number fields => Sys2Proof.Machine.execSetProfile number fields s
  | .invalidateProfile number => Sys2Proof.Machine.execInvalidateProfile number s
  | .readProfile number => Sys2Proof.Machine.execReadProfile number s
  | .setLayout codes => Sys2Proof.Machine.execSetLayout codes s
  | .setLookupLink enable order => Sys2Proof.Machine.execSetLookupLink enable order s
  | .setPolicy lane kind enable route hold => Sys2Proof.Machine.execSetPolicy lane kind enable route hold s
  | .setTimers tick limit lease => Sys2Proof.Machine.execSetTimers tick limit lease s
  | .forceRelease slot => Sys2Proof.Machine.execForceRelease slot s
  | .readLane lane => Sys2Proof.Machine.execReadLane lane s
  | .resetPart => Sys2Proof.Machine.execResetPart s
  | .take slot => Sys2Proof.Machine.execTake slot s
  | .release slot => Sys2Proof.Machine.execRelease slot s
  | .setGrade slot lift gain fade => Sys2Proof.Machine.execSetGrade slot lift gain fade s
  | .setOffset slot along across => Sys2Proof.Machine.execSetOffset slot along across s
  | .setLamp slot lamp => Sys2Proof.Machine.execSetLamp slot lamp s
  | .setCadence slot cadence => Sys2Proof.Machine.execSetCadence slot cadence s
  | .cut slot frame => Sys2Proof.Machine.execCut slot frame s
  | .join slot => Sys2Proof.Machine.execJoin slot s
  | .renew => Sys2Proof.Machine.execRenew s
  | .regrade link slot => Sys2Proof.Machine.execRegrade link slot s
  | .readSegment link slot => Sys2Proof.Machine.execReadSegment link slot s
  | .listReel link lane position => Sys2Proof.Machine.execListReel link lane position s
  | .readNotices link lane => Sys2Proof.Machine.execReadNotices link lane s
  | .clearNotice link lane mask => Sys2Proof.Machine.execClearNotice link lane mask s
  | .setLink link order => Sys2Proof.Machine.execSetLink link order s
  | .lookupLinkTransaction opening bytes => Sys2Proof.Machine.execLookupLinkTransaction opening bytes s
  | .lookup tag lane frame => Sys2Proof.Machine.execLookup tag lane frame s
  | .summary lane frame black white mean => Sys2Proof.Machine.execSummary lane frame black white mean s
  | .perf lane position strength => Sys2Proof.Machine.execPerf lane position strength s
  | .splice lane position kind => Sys2Proof.Machine.execSplice lane position kind s
  | .travel lane position => Sys2Proof.Machine.execTravel lane position s
  | .runout lane position => Sys2Proof.Machine.execRunout lane position s
  | .malformedGateWord lane bytes => Sys2Proof.Machine.execMalformedGateWord lane bytes s
  | .gradeCompletion => Sys2Proof.Machine.execGradeCompletion s
  | .deferralTick => Sys2Proof.Machine.execDeferralTick s
  | .deferralExpiry => Sys2Proof.Machine.execDeferralExpiry s
  | .leaseTick => Sys2Proof.Machine.execLeaseTick s
  | .leaseExpiry => Sys2Proof.Machine.execLeaseExpiry s

end Sys2Proof.Machine
end

