-- ==== Sys2Proof/Safety.lean ====
section
/-! DEFINITION. The laws that every step keeps, as predicates over State; the relations by which frames are stated; and what the rules leave of a record, a frame taken, a re-check and a freed slot, written out for the statements. -/

namespace Sys2Proof.Machine

/-- The slots of the four chains. -/
def State.chains (s : State) : List Slot := s.chain 0 ++ s.chain 1 ++ s.chain 2 ++ s.chain 3

/-- The laws of the Free List and the chains (R1, R3, R22): every slot stands once in the Free List or in one chain, no chain holds more than 64, a free slot has no record, a chained slot has a record of its lane, and the chain of an EMPTY or LOADED reel is empty. -/
structure SlotLaws (s : State) : Prop where
  conserved : (s.freeList ++ s.chains).Perm (List.finRange 160)
  bounded : ∀ l, (s.chain l).length ≤ Config.chainMax
  freed : ∀ i ∈ s.freeList, s.seg i = none
  chained : ∀ l, ∀ i ∈ s.chain l, (s.seg i).map Segment.lane = some l
  unloaded : ∀ l, (s.lane l).reel.state = .empty ∨ (s.lane l).reel.state = .loaded → s.chain l = []

/-- The laws of one record against the Compute Queue and the engine (R103, R104, R116): a COMPUTING segment stands in the one or in the other and is owned by AUTO, a segment in either is COMPUTING, a REGRADING segment is owned by AUTO, and a pending take is of the segment in the engine. -/
def SlotComputes (s : State) (i : Slot) (r : Segment) : Prop :=
  (r.phase = .computing ↔ i ∈ s.computeQueue ∨ s.engine = some i) ∧
  (r.phase = .computing ∨ r.phase = .regrading → r.owner = .auto) ∧
  (r.takePending = true → s.engine = some i)

/-- The laws of the Compute Queue and the engine (R103, R104): no slot twice, no slot both queued and in the engine, every slot in either has a record, and an IDLE engine leaves no slot waiting. -/
structure EngineLaws (s : State) : Prop where
  distinct : s.computeQueue.Nodup
  apart : ∀ i, s.engine = some i → i ∉ s.computeQueue
  recorded : ∀ i, i ∈ s.computeQueue ∨ s.engine = some i → (s.seg i).isSome = true
  idle : s.engine = none → s.computeQueue = []
  computes : ∀ i r, s.seg i = some r → SlotComputes s i r

/-- The laws of the lookup unit (R134, R138, R141, R146, R149, R150, R177): at most 12 entries, each with 1 to 255 ticks left, a deferral limit of 1 to 255, at most 16 reservations, a layout of 1 to 12 codes, every queued answer with as many slots as the layout, and nothing held while the link is disabled. -/
structure LookupLaws (s : State) : Prop where
  deferred : s.lookup.deferred.length ≤ Config.deferredMax
  waiting : ∀ e ∈ s.lookup.deferred, 1 ≤ e.remaining ∧ e.remaining ≤ 255
  limit : 1 ≤ s.limit ∧ s.limit ≤ 255
  reserved : s.reservations ≤ Config.reservationMax
  layout : 1 ≤ s.lookup.layout.length ∧ s.lookup.layout.length ≤ Config.layoutMax
  slots : ∀ a ∈ s.lookup.answers, a.slots.length = s.lookup.layout.length
  disabled : s.lookup.enabled = false → s.lookup.deferred = [] ∧ s.lookup.answers = []

/-- The laws of one record (R11, R12, R13, R18): revision 1 to 4,294,967,295, counts up to 65,535, at most 64 summaries. -/
def SegmentLaws (r : Segment) : Prop :=
  1 ≤ r.revision ∧ r.revision ≤ Config.revisionMax ∧ r.perforations ≤ Config.countMax ∧ r.coasts ≤ Config.countMax ∧
  r.acc.count ≤ Config.summariesMax

/-- The laws of one candidate (R77): span up to 65,535, at most 64 summaries. -/
def CandidateLaws (e : Candidate) : Prop := e.span ≤ Config.countMax ∧ e.acc.count ≤ Config.summariesMax

/-- The laws of the records, of the Candidate Queues and of the lease timer (R11-R13, R18, R77, R78, R129): a RUNNING timer's count is 1 to 255. -/
structure RecordLaws (s : State) : Prop where
  segments : ∀ i r, s.seg i = some r → SegmentLaws r
  queues : ∀ l, (s.lane l).queue.length ≤ 2
  candidates : ∀ l, ∀ e ∈ (s.lane l).queue, CandidateLaws e
  leaseLength : s.leaseLength ≤ Config.leaseMax
  lease : ∀ n, s.lease = some n → 1 ≤ n ∧ n ≤ Config.leaseMax

/-- Everything that a lane's own film-side and gate operations leave alone: profiles, policies of the part, part-wide flags, links, lease, timers, the RESET line, the settings of the lookup unit, the queue of commands, and the other lanes. -/
structure SameBeyondLane (l : Lane) (s t : State) : Prop where
  profiles : t.profiles = s.profiles
  partNotices : t.partNotices = s.partNotices
  partPolicies : t.partPolicies = s.partPolicies
  control : t.control = s.control
  grading : t.grading = s.grading
  lease : t.lease = s.lease
  resetHeld : t.resetHeld = s.resetHeld
  leaseLength : t.leaseLength = s.leaseLength
  tick : t.tick = s.tick
  limit : t.limit = s.limit
  enabled : t.lookup.enabled = s.lookup.enabled
  order : t.lookup.order = s.lookup.order
  layout : t.lookup.layout = s.lookup.layout
  status : t.lookup.status = s.lookup.status
  shifted : t.lookup.shifted = s.lookup.shifted
  pending : t.pending = s.pending
  otherLanes : ∀ k, k ≠ l → t.lane k = s.lane k
  otherSegments : ∀ i r, s.seg i = some r → r.lane ≠ l → t.seg i = some r
  policies : (t.lane l).policies = (s.lane l).policies
  load : (t.lane l).reel.load = (s.lane l).reel.load

/-! ### Frames on the links, by the tables of 11.6 and 11.7 -/

/-- The command codes permitted on a link (11.6, 11.7): LOAD_REEL to RESET_PART, 1 to 16, on control; TAKE to RENEW, 17 to 25, on grading; REGRADE to SET_LINK, 26 to 31, on both. -/
def codesOn : PortName → List Nat
  | .control => [1, 2, 3, 4, 5, 6, 7, 8, 9, 10, 11, 12, 13, 14, 15, 16, 26, 27, 28, 29, 30, 31]
  | .grading => [17, 18, 19, 20, 21, 22, 23, 24, 25, 26, 27, 28, 29, 30, 31]

/-- The payload length that the layout of a command code gives (11.7), `count` being the first payload byte, which SET_LAYOUT carries. -/
def payloadLength (code count : Nat) : Nat :=
  if code = 10 then 1 + count
  else
    [0, 8, 1, 1, 1, 1, 1, 29, 1, 1, 0, 2, 5, 3, 1, 1, 0, 1, 1, 14, 5, 3, 2, 4, 1, 0, 1, 1, 2, 1, 4, 1].getD code 0

/-- A number's bytes, one for each place from 0 up, in two's complement and in a byte order (11.7, R176). -/
def placed (order : ByteOrder) (size : Nat) (value : Int) : List Byte :=
  let bytes := (List.range size).map fun i => BitVec.ofInt 8 (value / 256 ^ i)
  match order with
  | .lsFirst => bytes
  | .msFirst => bytes.reverse

/-- A byte string with one byte more, so that all sum to 0 modulo 256 (R148, R173). -/
def Checked (body bytes : List Byte) : Prop :=
  ∃ check : Byte, bytes = body ++ [check] ∧ (bytes.map BitVec.toNat).sum % 256 = 0

/-! ### What the rules leave of a record, written out for the statements -/

/-- The pitch measured from a segment's anchor to frame `m` at position `p`: ten times the distance over the frames, rounded and clamped, or the pitch field as it stands fewer than two frames past the anchor (R67, R69, R70). -/
def pitchMeasured (r : Segment) (m : Nat) (p : Int) : Nat :=
  if r.anchorFrame + 2 ≤ m then
    (max 20000 (min 80000 (roundDiv (10 * (p - r.anchorPosition)) (m - r.anchorFrame)))).toNat
  else r.pitch

/-- The pitch measured to a lane's measure point; with the point absent, the pitch field as it stands (R67, R69). -/
def pitchAtMeasure (r : Segment) (m : Option MeasurePoint) : Nat :=
  match m with
  | none => r.pitch
  | some q => pitchMeasured r q.frame q.position

/-- A settle by the three rows of R21, with the pitch fixed and the profile's fade curve; its revision is left to the operation. -/
def settledAs (fade : Option Nat) (pitch : Nat) (r : Segment) : Segment :=
  if r.owner = .console ∨ r.source = .console then
    { r with
      pitch := pitch
      phase := .settled
      luminance :=
        if 4 ≤ r.acc.count then some ((r.acc.mean.r + r.acc.mean.g + r.acc.mean.b) / (3 * r.acc.count)) else r.luminance }
  else if 4 ≤ r.acc.count then { r with pitch := pitch, phase := .computing }
  else
    { r with
      pitch := pitch, phase := .settled, lift := ⟨0, 0, 0⟩, gain := ⟨1024, 1024, 1024⟩, fade := fade
      source := .defaulted, luminance := none }

/-- The notices of a settle, in order (R21): none in the first row, GRADE_DEFAULTED and SEGMENT_SETTLED in the second, SEGMENT_SETTLED in the third. -/
def settleNotices (i : Slot) (r : Segment) : List (Fin 11 × Option Slot) :=
  if r.owner = .console ∨ r.source = .console then [(9, some i)]
  else if 4 ≤ r.acc.count then [] else [(8, some i), (9, some i)]

/-- The slot that a settle appends to the Compute Queue, in the first row of R21. -/
def settleJoins (i : Slot) (r : Segment) : List Slot :=
  if ¬(r.owner = .console ∨ r.source = .console) ∧ 4 ≤ r.acc.count then [i] else []

/-- A segment closed at frame `last`: a MEASURING one settles with the pitch given (R20, R90); its revision is left to the operation. -/
def closedAt (fade : Option Nat) (pitch last : Nat) (r : Segment) : Segment :=
  if r.phase = .measuring then settledAs fade pitch { r with last := some last } else { r with last := some last }

/-- A candidate's accumulator handed back to the open segment (R81): added where that is MEASURING or REGRADING and the sum is at most 64; a REGRADING one that thereby reaches the window size enters COMPUTING (R109). -/
def takingBack (window : Nat) (r : Segment) (acc : Accum) : Segment :=
  if acc.count ≠ 0 ∧ (r.phase = .measuring ∨ r.phase = .regrading) ∧ r.acc.count + acc.count ≤ 64 then
    { r with
      acc :=
        { count := r.acc.count + acc.count
          black := ⟨r.acc.black.r + acc.black.r, r.acc.black.g + acc.black.g, r.acc.black.b + acc.black.b⟩
          white := ⟨r.acc.white.r + acc.white.r, r.acc.white.g + acc.white.g, r.acc.white.b + acc.white.b⟩
          mean := ⟨r.acc.mean.r + acc.mean.r, r.acc.mean.g + acc.mean.g, r.acc.mean.b + acc.mean.b⟩ }
      phase := if r.phase = .regrading ∧ window ≤ r.acc.count + acc.count then .computing else r.phase }
  else r

/-- The slot that joins the Compute Queue when a hand-back brings `r` to `q` (R109). -/
def handBackJoins (i : Slot) (r q : Segment) : List Slot :=
  if r.phase = .regrading ∧ q.phase = .computing then [i] else []

/-- The open segment with frames counted in it, `coasts` of them synthesised (R11, R12): a MEASURING one that reaches the window size settles (R20), and otherwise takes the running estimate (R67); its revision is left to the operation. -/
def countingFrames (p : Profile) (m : Option MeasurePoint) (frames coasts : Nat) (r : Segment) : Segment :=
  let q := { r with perforations := min 65535 (r.perforations + frames), coasts := min 65535 (r.coasts + coasts) }
  if r.phase = .measuring then
    if p.windowSize ≤ q.perforations then settledAs p.fade (pitchAtMeasure q m) q else { q with pitch := pitchAtMeasure q m }
  else q

/-- Whether frames counted settle the segment (R11, R20). -/
def countingSettles (p : Profile) (frames : Nat) (r : Segment) : Bool :=
  decide (r.phase = .measuring) && decide (p.windowSize ≤ min 65535 (r.perforations + frames))

/-- The revision of a segment that stays open through an operation (R18): one past the one before where its phase, its pitch or its COASTED flag differs. -/
def revisedFrom (before q : Segment) : Segment :=
  { q with
    revision :=
      if q.phase = before.phase ∧ q.pitch = before.pitch ∧ (0 < q.coasts ↔ 0 < before.coasts) then before.revision
      else nextRevision before.revision }

/-- Notices raised in order on a lane: each sets its flag and its latest slot (R162). -/
def raisedBy (raises : List (Fin 11 × Option Slot)) (v : Vector NoticeFlag 11) : Vector NoticeFlag 11 :=
  raises.foldl (fun v p => v.set p.1 { raised := true, latest := p.2 }) v

/-! ### What an operation leaves of a lane's records -/

/-- Slots joined the tail of the Compute Queue, in order, and an IDLE engine began the head (R103, R104). -/
def JoinedBy (joins : List Slot) (s t : State) : Prop :=
  if joins = [] then t.computeQueue = s.computeQueue ∧ t.engine = s.engine
  else if s.engine = none then
    t.engine = (s.computeQueue ++ joins).head? ∧ t.computeQueue = (s.computeQueue ++ joins).tail
  else t.engine = s.engine ∧ t.computeQueue = s.computeQueue ++ joins

/-- The Free List, one lane's chain, every record, the lane's notices and the Compute Queue and engine after an operation, which leaves the profiles and the lane's reel alone. -/
structure RecordsAre (l : Lane) (free chain : List Slot) (record : Slot → Option Segment)
    (raises : List (Fin 11 × Option Slot)) (joins : List Slot) (s t : State) : Prop where
  freeList : t.freeList = free
  chain : t.chain l = chain
  records : ∀ k, t.seg k = record k
  notices : (t.lane l).notices = raisedBy raises (s.lane l).notices
  joined : JoinedBy joins s t
  profiles : t.profiles = s.profiles
  load : (t.lane l).reel.load = (s.lane l).reel.load

/-- A segment can be allocated for a lane (R2, R89). -/
def HasSpace (l : Lane) (s : State) : Prop := s.freeList ≠ [] ∧ (s.chain l).length < 64

/-- The segment that a split opens at frame `f` (R91), before any settle; `closed` is the segment it closed, as it stands after the close, and `coasts` is 1 where the frame taken that made the split was synthesised (log entry 7). -/
def openedBySplit (l : Lane) (p : Profile) (m : Option MeasurePoint) (coasts : Nat) (closed : Segment) (f : Nat) (position : Int)
    (e : Candidate) : Segment :=
  let opened : Segment :=
    { lane := l, life := .live, revision := 1, first := f, last := none, origin := e.kind.origin, phase := .measuring
      anchorFrame := f, anchorPosition := position, pitch := closed.pitch, perforations := min 65535 (e.span + 1)
      coasts := coasts, travelOffset := p.travelOffset, lateralOffset := p.lateralOffset, lift := closed.lift
      gain := closed.gain, fade := closed.fade, lamp := closed.lamp, cadence := closed.cadence, source := .inherited
      luminance := none, acc := e.acc, owner := .auto, takePending := false, profile := closed.profile }
  { opened with pitch := pitchAtMeasure opened m }

/-- A split of the open segment, slot `i` with record `r`, at frame `f` and `position`, for the candidate `e` (R89-R92): `r` closed at f − 1 with its revision raised once, the head of the Free List opened at `f` and appended to the chain, settled at once where its perforation count reaches the window size, and SPLIT_MADE. -/
def SplitMade (l : Lane) (m : Option MeasurePoint) (coasts : Nat) (i : Slot) (r : Segment) (f : Nat) (position : Int) (e : Candidate)
    (s t : State) : Prop :=
  match s.freeList with
  | [] => False
  | j :: rest =>
    let p := s.profile r.profile
    let closed := closedAt p.fade (pitchMeasured r f position) (f - 1) r
    let opened := openedBySplit l p m coasts closed f position e
    let settles := decide (p.windowSize ≤ opened.perforations)
    RecordsAre l rest (s.chain l ++ [j])
      (fun k =>
        if k = j then some (if settles then settledAs p.fade opened.pitch opened else opened)
        else if k = i then some { closed with revision := nextRevision r.revision }
        else s.seg k)
      ((if r.phase = .measuring then settleNotices i r else []) ++ [(6, some j)] ++
        (if settles then settleNotices j opened else []))
      ((if r.phase = .measuring then settleJoins i r else []) ++ (if settles then settleJoins j opened else []))
      s t

/-- Frames counted in the open segment, slot `i`, whose record before the operation is `before` and after any hand-back `r`; `raises` and `joins` are what came before the count (R11, R12, R18, R20, R67). -/
def FramesCounted (l : Lane) (m : Option MeasurePoint) (frames coasts : Nat) (i : Slot) (before r : Segment)
    (raises : List (Fin 11 × Option Slot)) (joins : List Slot) (s t : State) : Prop :=
  let p := s.profile r.profile
  let settles := countingSettles p frames r
  RecordsAre l s.freeList (s.chain l)
    (fun k => if k = i then some (revisedFrom before (countingFrames p m frames coasts r)) else s.seg k)
    (raises ++ if settles then settleNotices i r else []) (joins ++ if settles then settleJoins i r else []) s t

/-- The three tests of R86 on an EVALUATING candidate against the open segment `r`, with reference frame `c` taken at `x`: PITCH, DRIFT or DENSITY holds. -/
def SplitTests (p : Profile) (r : Segment) (e : Candidate) (c : Nat) (x : Int) : Prop :=
  let predicted (n : Nat) : Int := r.anchorPosition + roundDiv (((n : Int) - r.anchorFrame) * r.pitch) 10
  r.pitch * p.pitchTolerance < (roundDiv (10 * (x - predicted e.frame)) (c - e.frame) - r.pitch).natAbs * 1000 ∨
  p.driftLimit < (x - predicted c).natAbs ∨
  (2 ≤ e.acc.count ∧ ∃ lum ∈ r.luminance,
    p.densityThreshold < ((((e.acc.mean.r + e.acc.mean.g + e.acc.mean.b) / (3 * e.acc.count) : Nat) : Int) - lum).natAbs)

/-- An entry resolved before its span is complete (R87, R94), with reference frame `c` taken at `x`: an EVALUATING one with a span of 2 or more by the tests, as a split, or NO_SPACE, where one holds; any other is dismissed and its accumulator handed back. The entry has left the queue. -/
def ResolvedEarly (l : Lane) (m : Option MeasurePoint) (i : Slot) (r : Segment) (c : Nat) (x : Int) (e : Candidate)
    (s t : State) : Prop :=
  let same (k : Slot) : Option Segment := s.seg k
  let q := takingBack (s.profile r.profile).windowSize r e.acc
  (e.state = .evaluating ∧ 2 ≤ e.span ∧ SplitTests (s.laneProfile l) r e c x →
    (HasSpace l s → SplitMade l m 0 i r e.frame e.position e s t) ∧
    (¬HasSpace l s → RecordsAre l s.freeList (s.chain l) same [(7, some i)] [] s t)) ∧
  (¬(e.state = .evaluating ∧ 2 ≤ e.span ∧ SplitTests (s.laneProfile l) r e c x) →
    RecordsAre l s.freeList (s.chain l) (fun k => if k = i then some q else s.seg k) [] (handBackJoins i r q) s t)

/-- An ARMED candidate fires at frame `n` taken at `position` (R84, R89): a split there, or NO_SPACE, with TABLE_FULL and the frame counted in the open segment, slot `i` with record `r`. `before` is that segment's record before the operation, if it was there then. -/
def CandidateFires (l : Lane) (m : Option MeasurePoint) (coasts : Nat) (i : Slot) (before r : Segment) (n : Nat)
    (position : Int) (e : Candidate) (s t : State) : Prop :=
  (HasSpace l s → SplitMade l m coasts i r n position e s t) ∧
  (¬HasSpace l s → FramesCounted l m 1 coasts i before r [(7, some i)] [] s t)

/-- An EVALUATING entry's span counts a frame taken (R85). -/
def spanCounted (e : Candidate) : Candidate :=
  if e.state = .evaluating then { e with span := min 65535 (e.span + 1) } else e

/-- What frame `n` taken at `position` does to the open segment, slot `i` with record `r`, and to the Candidate Queue (R84-R92): `c` and `x` are the frame and position before it. -/
structure FrameResolved (l : Lane) (m : Option MeasurePoint) (coasts : Nat) (i : Slot) (r : Segment) (n : Nat)
    (position : Int) (c : Nat) (x : Int) (s t : State) : Prop where
  /-- With an empty queue the frame is counted in the open segment. -/
  empty : (s.lane l).queue = [] → (t.lane l).queue = [] ∧ FramesCounted l m 1 coasts i r r [] [] s t
  /-- An ARMED head at this frame fires. -/
  fires : ∀ h rest, (s.lane l).queue = h :: rest → h.state = .armed → h.frame = n →
    (t.lane l).queue = rest ∧ CandidateFires l m coasts i r r n position h s t
  /-- An EVALUATING head before an ARMED second entry at this frame is resolved early, and the second then fires. -/
  early : ∀ h a, (s.lane l).queue = [h, a] → h.state = .evaluating → a.state = .armed → a.frame = n →
    (t.lane l).queue = [] ∧ ∃ (u : State) (j : Slot) (q : Segment),
      u.openSeg l = some (j, q) ∧ ResolvedEarly l m i r c x h s u ∧
      (j = i → CandidateFires l m coasts i r q n position a u t) ∧
      (j ≠ i → HasSpace l u → SplitMade l m coasts j q n position a u t)
  /-- An EVALUATING head whose span reaches 8 is resolved by the tests: a split, NO_SPACE with the frame counted, or dismissed with its accumulator handed back and the frame counted. -/
  resolves : ∀ h rest, (s.lane l).queue = h :: rest → h.state = .evaluating → 8 ≤ (spanCounted h).span →
    (∀ a, rest = [a] → a.state = .armed → a.frame ≠ n) →
    (t.lane l).queue = rest.map spanCounted ∧
    (SplitTests (s.laneProfile l) r h n position →
      (HasSpace l s → SplitMade l m coasts i r h.frame h.position (spanCounted h) s t) ∧
      (¬HasSpace l s → FramesCounted l m 1 coasts i r r [(7, some i)] [] s t)) ∧
    (¬SplitTests (s.laneProfile l) r h n position →
      let q := takingBack (s.profile r.profile).windowSize r h.acc
      FramesCounted l m 1 coasts i r q [] (handBackJoins i r q) s t)
  /-- Any other head waits: the spans of EVALUATING entries count the frame, and the open segment counts it. -/
  waits : ∀ h rest, (s.lane l).queue = h :: rest →
    (h.state = .armed ∧ h.frame ≠ n) ∨ (h.state = .evaluating ∧ (spanCounted h).span < 8) →
    (∀ a, rest = [a] → h.state = .evaluating → a.state = .armed → a.frame ≠ n) →
    (t.lane l).queue = (h :: rest).map spanCounted ∧ FramesCounted l m 1 coasts i r r [] [] s t

/-- The queued entries give way to a GAP in queue order, with the last frame taken before the loss as reference (R94): from `s` to `t`, each resolved early against the segment open when its turn comes. -/
def QueueGivesWay (l : Lane) (m : Option MeasurePoint) (c : Nat) (x : Int) : List Candidate → State → State → Prop
  | [], s, t => t = s
  | e :: rest, s, t => ∃ (i : Slot) (r : Segment) (u : State),
      s.openSeg l = some (i, r) ∧ ResolvedEarly l m i r c x e s u ∧ QueueGivesWay l m c x rest u t

/-- A GAP at a relock whose first frame `n` was taken at `position` (R56, R94): the queued entries give way, and then the open segment is split at `n`, with a span of 2; with no space TABLE_FULL is raised and the open segment, where it is still slot `i`, counts the three frames. -/
def GapSplit (l : Lane) (m : Option MeasurePoint) (i : Slot) (r : Segment) (n : Nat) (position : Int) (c : Nat) (x : Int)
    (s t : State) : Prop :=
  (t.lane l).queue = [] ∧ ∃ (u : State) (j : Slot) (q : Segment),
    QueueGivesWay l m c x (s.lane l).queue s u ∧ u.openSeg l = some (j, q) ∧
    (HasSpace l u → SplitMade l m 0 j q n position
      { frame := n, position := position, kind := .gap, state := .evaluating, span := 2, acc := Accum.zero
        evidence := { sensor := false, pitch := false, density := false, drift := false } } u t) ∧
    (¬HasSpace l u → j = i → FramesCounted l m 3 0 i r q [(7, some i)] [] u t)

/-! ### Re-checks of deferrals -/

/-- What a re-check makes of an entry, on the part as `u` has it: the entry with the reason it now waits for and its remaining ticks kept, or its answer (R139); in a CLOSING reel by the segment that holds its frame (R145). -/
def recheckOutcome (u : State) (e : Deferral) : Deferral ⊕ Answer :=
  let answer (status : AnswerStatus) (slots : List Nat) : Deferral ⊕ Answer :=
    .inr { tag := e.tag, status := status, lane := e.lane, frame := e.frame, slots := slots }
  let settled (i : Slot) (r : Segment) := answer .settled (u.lookup.layout.map (FieldCode.value e.frame i r))
  if (u.lane e.lane).reel.state = .closing then
    match u.find e.lane e.frame with
    | .found i r => if r.phase = .settled then settled i r else .inl { e with reason := .segment i }
    | _ => .inl e
  else
    match u.classify e.lane e.frame with
    | .source i r => settled i r
    | .plain status => answer status (u.lookup.layout.map fun _ => 0)
    | .defer reason => .inl { e with reason := reason }

/-- The lookup unit after a re-check, on the part as `u` has it, of the entries `concerned` picks: in acceptance order, those that wait stay in their order and the answers join the tail of the Answer Queue (R139, R140). -/
def recheckedUnit (u : State) (concerned : Deferral → Bool) (x : LookupUnit) : LookupUnit :=
  let outcomes := x.deferred.map fun e => if concerned e then recheckOutcome u e else .inl e
  { x with deferred := outcomes.filterMap Sum.getLeft?, answers := x.answers ++ outcomes.filterMap Sum.getRight? }

/-- Whether an entry awaits a segment that settled between two states (R140). -/
def awaitsASettle (s t : State) (e : Deferral) : Bool :=
  match e.reason with
  | .segment i =>
    decide ((s.seg i).map Segment.phase = some .measuring) && decide ((t.seg i).map Segment.phase ≠ some .measuring)
  | _ => false

/-- Whether the head of a lane's Candidate Queue was resolved, or its frame moved, between two states (R97). -/
def headReleased (l : Lane) (s t : State) : Bool :=
  match (s.lane l).queue with
  | [] => false
  | h :: _ =>
    decide ((t.lane l).queue.head?.map Candidate.frame ≠ some h.frame) ||
    decide ((t.lane l).queue.length < (s.lane l).queue.length)

/-! ### Frames taken and the watches -/

/-- Frame `n` taken at `position` on a lane, accepted or synthesised, whole (R51, R65, R68): the measure point, the resolver and the count of the frame, the tracker's frame, position and deadline, the lamp, and the lane's deferrals. -/
structure FrameTaken (l : Lane) (n : Nat) (position : Int) (accepted : Bool) (s t : State) : Prop where
  measure : (t.lane l).measure = if accepted then some { frame := n, position := position } else (s.lane l).measure
  resolved : ∀ i r c x, s.openSeg l = some (i, r) → (s.lane l).tracker.current = some c →
    (s.lane l).tracker.lastPosition = some x →
    FrameResolved l (t.lane l).measure (if accepted then 0 else 1) i r n position c x s t
  tracker : ∀ j q, t.openSeg l = some (j, q) → (t.lane l).tracker =
    { (s.lane l).tracker with
      current := some n
      lastPosition := some position
      deadline := some (position + roundDiv (q.pitch * (100 + (s.laneProfile l).captureWindow) : Nat) 1000) }
  duty : ∀ j q, t.openSeg l = some (j, q) → (t.lane l).duty = q.lamp
  reel : (t.lane l).reel = { (s.lane l).reel with chain := t.chain l }
  lookup : t.lookup = recheckedUnit t
    (fun e => (decide (e.lane = l) &&
        (decide (e.reason = .ahead) || (decide (e.reason = .candidate) && headReleased l s t))) || awaitsASettle s t e)
    s.lookup
  beyond : SameBeyondLane l s t

/-- The watches on perforation `n` accepted at `position`, `previous` being the position of the frame before where that was accepted too (R61-R63): from `s`, the state the frame taken left, with its open segment `r`, to `t`. -/
structure Watched (l : Lane) (n : Nat) (position : Int) (previous : Option Int) (r : Segment) (s t : State) : Prop where
  /-- A MEASURING segment or a queued candidate: the watches do not run and their runs become 0. -/
  stopped : r.phase = .measuring ∨ (s.lane l).queue ≠ [] →
    t = s.onTracker l fun d => { d with drift := none, pitchRun := none }
  /-- The second off-pitch interval raises a PITCH_STEP candidate at the first one's frame, at its predicted position; the drift watch does not run. -/
  pitchStep : ∀ x f, r.phase ≠ .measuring → (s.lane l).queue = [] → previous = some x →
    r.pitch * (s.laneProfile l).pitchTolerance < (10 * (position - x) - (r.pitch : Int)).natAbs * 1000 →
    (s.lane l).tracker.pitchRun = some f →
    t = (s.onTracker l fun d => { d with drift := none, pitchRun := none }).setQueue l
      (if f ≤ r.first then [] else
        [{ frame := f, position := r.anchorPosition + roundDiv (((f : Int) - r.anchorFrame) * r.pitch) 10
           kind := .pitchStep, state := .evaluating, span := min 65535 (n - f), acc := Accum.zero
           evidence := { sensor := false, pitch := true, density := false, drift := false } }])
  /-- Otherwise: a first off-pitch interval starts the pitch run, a consistent one ends it, and a perforation with no accepted interval leaves it; a deviation within the drift limit ends the drift run, one beyond it starts the run or adds to it, and the third raises a DRIFT candidate at the first one's frame and position. -/
  otherwise : r.phase ≠ .measuring → (s.lane l).queue = [] →
    (∀ x f, previous = some x → (s.lane l).tracker.pitchRun = some f →
      (10 * (position - x) - (r.pitch : Int)).natAbs * 1000 ≤ r.pitch * (s.laneProfile l).pitchTolerance) →
    let pitchRun := previous.elim (s.lane l).tracker.pitchRun fun x =>
      if (10 * (position - x) - (r.pitch : Int)).natAbs * 1000 ≤ r.pitch * (s.laneProfile l).pitchTolerance then none
      else some n
    let off := (position - (r.anchorPosition + roundDiv (((n : Int) - r.anchorFrame) * r.pitch) 10)).natAbs
    let leaves (run : Option DriftRun) : State := s.onTracker l fun d => { d with pitchRun := pitchRun, drift := run }
    (off ≤ (s.laneProfile l).driftLimit → t = leaves none) ∧
    ((s.laneProfile l).driftLimit < off →
      ((s.lane l).tracker.drift = none → t = leaves (some { count := 1, frame := n, position := position })) ∧
      (∀ d, (s.lane l).tracker.drift = some d → d.count < 2 → t = leaves (some { d with count := d.count + 1 })) ∧
      (∀ d, (s.lane l).tracker.drift = some d → 2 ≤ d.count →
        t = (leaves none).setQueue l
          (if d.frame ≤ r.first then [] else
            [{ frame := d.frame, position := d.position, kind := .drift, state := .evaluating
               span := min 65535 (n - d.frame), acc := Accum.zero
               evidence := { sensor := false, pitch := false, density := false, drift := true } }])))

/-- What the freeing of slot `i` of lane `l` at the end of an event leaves, beside the state before the event (R4, R155, R157, R158): the slot at the tail of the Free List and out of the chain, and, where the chain of a CLOSING reel is left empty, the reel EMPTY with REEL_RETIRED. -/
structure SlotFreed (l : Lane) (i : Slot) (s t : State) : Prop where
  record : t.seg i = none
  freeList : t.freeList = s.freeList ++ [i]
  chain : t.chain l = (s.chain l).erase i
  ended : (s.lane l).reel.state = .closing → s.chain l = [i] →
    (t.lane l).reel = { state := .empty, load := none, chain := [] } ∧ (t.lane l).tracker.current = none ∧
    (t.lane l).tracker.lastPosition = none ∧ (t.lane l).tracker.deadline = none ∧
    (t.lane l).notices[10] = { raised := true, latest := none }
  kept : s.chain l ≠ [i] → (t.lane l).reel = { (s.lane l).reel with chain := (s.chain l).erase i } ∧
    (t.lane l).tracker = (s.lane l).tracker

/-- The part after the slots that `gone` picks were freed at the end of one event (R4, R157, R158): at the tail of the Free List, lowest lane first and each chain from its head, and out of their chains; a CLOSING reel whose chain that leaves empty is EMPTY, with the frame, position and deadline of its tracker absent and REEL_RETIRED raised. -/
def freedAfter (gone : Slot → Bool) (s : State) : State :=
  { s with
    segments := Vector.ofFn fun i => if gone i then none else s.seg i
    freeList := s.freeList ++ s.chains.filter gone
    lanes := Vector.ofFn fun l =>
      let d := s.lane l
      let left := (s.chain l).filter fun i => !gone i
      if d.reel.state = .closing ∧ left = [] ∧ s.chain l ≠ [] then
        { d with
          reel := { state := .empty, load := none, chain := [] }
          tracker := { d.tracker with current := none, lastPosition := none, deadline := none }
          notices := d.notices.set 10 { raised := true, latest := none } }
      else { d with reel := { d.reel with chain := left } } }

/-- The segment has no hold left but those of the console: RETIRING, with its computation over and no entry of the Deferred Set awaiting it (R155). -/
def heldByConsoleOnly (s : State) (i : Slot) (r : Segment) : Bool :=
  decide (r.life = .retiring) && decide (r.phase = .settled ∨ r.phase = .regrading) &&
  s.lookup.deferred.all fun e => decide (e.reason ≠ .segment i)

/-- The part after the holds and pending takes of the slots `named` picks were dropped, with the notice of part-wide kind `k` (R130, R131): a CONSOLE owner becomes AUTO with revision +1, a pending take is cancelled, the notice is raised when one changed, and each RETIRING one that changed and that nothing else holds is freed (R156). -/
def holdsDropped (named : Slot → Bool) (k : Fin 5) (latest : Option Slot) (s : State) : State :=
  let changed (i : Slot) : Bool := named i && (s.seg i).any fun r => decide (r.owner = .console) || r.takePending
  freedAfter (fun i => changed i && (s.seg i).any (heldByConsoleOnly s i))
    { s with
      segments := Vector.ofFn fun i => (s.seg i).map fun r =>
        if changed i then
          { r with
            owner := .auto
            takePending := false
            revision := if r.owner = .console then nextRevision r.revision else r.revision }
        else r
      partNotices :=
        if ∃ i, changed i = true then s.partNotices.set k { raised := true, latest := latest } else s.partNotices }

/-! ### Expiry of a deferral -/

/-- The expiry of entry `e`, from `s` to `t` (R142, R156): a PROVISIONAL answer joins the queue, the entry leaves the set, and PROVISIONAL_ISSUED is raised with the slot the answer was built from, by the rows of R142; an awaited RETIRING segment that nothing holds any more is freed. -/
def Expires (e : Deferral) (s t : State) : Prop :=
  ∃ (a : Answer) (source : Option Slot),
    a.tag = e.tag ∧ a.status = .provisional ∧ a.lane = e.lane ∧ a.frame = e.frame ∧
    (let built (i : Slot) (r : Segment) : Prop :=
      a.slots = s.lookup.layout.map (FieldCode.value e.frame i r) ∧ source = some i
     let past := ∀ c, (s.lane e.lane).tracker.current = some c → c < e.frame
     ((s.lane e.lane).reel.state ≠ .closing →
       (∀ i r, ¬past → s.find e.lane e.frame = .found i r → built i r) ∧
       (∀ i r, past → s.openSeg e.lane = some (i, r) → built i r) ∧
       (past → s.openSeg e.lane = none → a.slots = s.lookup.layout.map (fun _ => 0) ∧ source = none)) ∧
     (∀ i r, (s.lane e.lane).reel.state = .closing → e.reason = .segment i → s.seg i = some r → built i r)) ∧
    (let u :=
      { s with
        lookup :=
          { s.lookup with deferred := s.lookup.deferred.erase e, answers := s.lookup.answers ++ [a] }
        partNotices := s.partNotices.set 4 { raised := true, latest := source } }
     t.lookup = u.lookup ∧ t.partNotices = u.partNotices ∧
     (SlotLaws s → EngineLaws s → SlotLaws t ∧ EngineLaws t ∧
       t = freedAfter
         (fun i => decide (e.reason = .segment i) && (s.seg i).any fun r =>
           decide (r.owner = .auto ∧ r.takePending = false) && heldByConsoleOnly u i r)
         u))

/-- Entries expire one after the other, from `s` to `t`. -/
def ExpireInOrder : List Deferral → State → State → Prop
  | [], s, t => t = s
  | e :: rest, s, t => ∃ u, Expires e s u ∧ ExpireInOrder rest u t

/-! ### The end of a reel -/

/-- The open segment after the end of a reel at frame `c` (R59, R69, R81, R96): the accumulators of the queued candidates handed back in queue order, then closed there, settling with its pitch measured to the measure point, and its revision raised once. -/
def closedAtEnd (p : Profile) (m : Option MeasurePoint) (queue : List Candidate) (c : Nat) (r : Segment) : Segment :=
  let q := queue.foldl (fun q e => takingBack p.windowSize q e.acc) r
  { closedAt p.fade (pitchAtMeasure q m) c q with revision := nextRevision r.revision }

/-- What the end of a reel makes of an entry of the Deferred Set, from `s` to `t` (R59, R140, R144): an AHEAD entry of the lane is answered OUT_OF_RANGE, its CANDIDATE entries and those that await a segment the end settled are re-checked, and any other waits on. -/
def endedOutcome (l : Lane) (s t : State) (e : Deferral) : Deferral ⊕ Answer :=
  if e.lane = l ∧ e.reason = .ahead then
    .inr { tag := e.tag, status := .outOfRange, lane := e.lane, frame := e.frame, slots := s.lookup.layout.map fun _ => 0 }
  else if (e.lane = l ∧ e.reason = .candidate) ∨ awaitsASettle s t e = true then recheckOutcome t e
  else .inl e

/-- What the entry to ENDED leaves of a lane, from `s` to `t`, `first` being the notices raised before (R58, R59): reel and tracker ENDED with the frame and position last taken kept, the queue empty, the measure point absent and the lamp dark; the queued candidates' accumulators handed back and the open segment closed at that frame, with the settle's notices and its place in the Compute Queue; RUNOUT with that segment's slot; the lane's deferrals dealt with in acceptance order. -/
structure LaneEnded (first : List (Fin 11 × Option Slot)) (l : Lane) (s t : State) : Prop where
  lane : t.lane l =
    { s.lane l with
      reel := { (s.lane l).reel with state := .ended }
      tracker :=
        { (s.lane l).tracker with state := .ended, coastRun := 0, drift := none, pitchRun := none, relock := [] }
      queue := []
      measure := none
      duty := 0
      notices := (t.lane l).notices }
  /-- The open segment, its close, its settle and the notices. -/
  closed : ∀ i r c, s.openSeg l = some (i, r) → (s.lane l).tracker.current = some c →
    let p := s.profile r.profile
    let handed := (s.lane l).queue.foldl (fun q e => takingBack p.windowSize q e.acc) r
    RecordsAre l s.freeList (s.chain l)
      (fun k => if k = i then some (closedAtEnd p (s.lane l).measure (s.lane l).queue c r) else s.seg k)
      (first ++ (if r.phase = .measuring then settleNotices i handed else []) ++ [(3, some i)])
      (handBackJoins i r handed ++ if r.phase = .measuring then settleJoins i handed else []) s t
  /-- A lane that never locked has no segment to close. -/
  bare : s.openSeg l = none →
    RecordsAre l s.freeList (s.chain l) (fun k => s.seg k) (first ++ [(3, none)]) [] s t
  lookup : t.lookup =
    { s.lookup with
      deferred := (s.lookup.deferred.map (endedOutcome l s t)).filterMap Sum.getLeft?
      answers := s.lookup.answers ++ (s.lookup.deferred.map (endedOutcome l s t)).filterMap Sum.getRight? }
  beyond : SlotLaws s → SameBeyondLane l s t

/-- What the end of the frame range or of the position range leaves of a lane (R58): TRAVEL_RANGE with the open segment's slot, and then the entry to ENDED. -/
def EndedAtRange (l : Lane) (s t : State) : Prop := LaneEnded [(4, s.openSlot l)] l s t

end Sys2Proof.Machine
end

