-- ==== Sys2Proof/Certificates/Slice0/Obligations.lean ====
section
/-! DEFINITION. The statements for the provers. Every one is about `exec`, `step` or a named operation of the part; a next state is written out as a record, or as what it holds. -/

open Sys2Proof Sys2Proof.Machine

/-! ### The block's step -/

/-- A step takes the command at the front of the queue and runs it on the state with the queue's rest. -/
def Obligations.StepRunsTheFrontCommand : Prop :=
  ∀ (c : Instr) (rest : List Instr) (s : State),
    s.pending = c :: rest → step s = exec c { s with pending := rest }

/-- On an empty queue (the model's choice, log entry 2) a step runs what is due: the control link's dispatched request, else the grading link's; with nothing due the part idles. -/
def Obligations.EmptyQueueStep : Prop :=
  ∀ s : State, s.pending = [] →
    (∀ c, s.control.dispatched = some c → step s = exec c s) ∧
    (∀ c, s.control.dispatched = none → s.grading.dispatched = some c → step s = exec c s) ∧
    (s.control.dispatched = none → s.grading.dispatched = none → step s = .next s)

/-- No command of the part stops: each, with any operands, in any state, answers a next state, and it leaves the queue of commands as it was. -/
def Obligations.EveryCommandAnswersNext : Prop :=
  ∀ (c : Instr) (s : State), ∃ t, exec c s = .next t ∧ t.pending = s.pending

/-! ### Power-on and reset -/

/-- POWER_ON: every record, queue and setting takes the power-on value that R5, R26, R36, R41, R64, R78, R103, R104, R129, R133, R163, R166, R169, R171 and R177 give. The queue of commands and the level of the RESET line come from outside and stay (the model's choice, log entry 19). RESET_DONE's reason 0 and empty payload are the model's choice too (log entry 33). -/
def Obligations.PowerOnValues : Prop :=
  ∀ s : State, ∃ t, exec .powerOn s = .next t ∧
    t.pending = s.pending ∧ t.resetHeld = s.resetHeld ∧
    t.freeList = List.finRange 160 ∧ (∀ i, t.seg i = none) ∧
    (∀ l, (t.lane l).reel = { state := .empty, load := none, chain := [] } ∧
      (t.lane l).tracker =
        { state := .idle, current := none, lastPosition := none, deadline := none, coastRun := 0, drift := none,
          pitchRun := none, relock := [] } ∧
      (t.lane l).measure = none ∧ (t.lane l).queue = [] ∧ (t.lane l).duty = 0 ∧
      (∀ k : Fin 11, (t.lane l).notices[k] = { raised := false, latest := none }) ∧
      (∀ k : Fin 11, (t.lane l).policies[k] =
        { enable := decide (k = 1 ∨ k = 7 ∨ k = 10), route := .control, hold := decide (k = 1 ∨ k = 7) })) ∧
    (∀ p, (t.profile p).valid = false ∧ (t.profile p).gauge = .mm8 ∧ (t.profile p).windowSize = 12 ∧
      (t.profile p).targetBlack = 256 ∧ (t.profile p).targetWhite = 3840 ∧ (t.profile p).fade = none ∧
      (t.profile p).nominalPitch = 0 ∧ (t.profile p).pitchTolerance = 0 ∧ (t.profile p).captureWindow = 0 ∧
      (t.profile p).minStrength = 0 ∧ (t.profile p).coastLimit = 0 ∧ (t.profile p).driftLimit = 0 ∧
      (t.profile p).densityThreshold = 0 ∧ (t.profile p).defaultLamp = 0 ∧ (t.profile p).travelOffset = 0 ∧
      (t.profile p).lateralOffset = 0 ∧ (t.profile p).cadence = 0) ∧
    t.computeQueue = [] ∧ t.engine = none ∧ t.lease = none ∧ t.leaseLength = 60 ∧
    t.lookup.enabled = false ∧ t.lookup.order = .msFirst ∧ t.lookup.layout = LookupUnit.defaultLayout ∧
    t.lookup.deferred = [] ∧ t.lookup.answers = [] ∧ t.lookup.status = .none ∧
    t.tick = .thirtySecond ∧ t.limit = 16 ∧
    (∀ k : Fin 5, t.partNotices[k] = { raised := false, latest := none }) ∧
    (∀ k : Fin 5, t.partPolicies[k] =
      { enable := decide (k ≠ 4), route := if k = 1 ∨ k = 3 then .grading else .control, hold := false }) ∧
    (∀ k, (t.link k).slot = some { status := .resetDone, reason := .none, payload := [], ignored := false } ∧
      (t.link k).ready = true ∧ (t.link k).order = .msFirst) ∧
    t.attnC = false ∧ t.attnG = false ∧ (∀ l, t.holdLine l = false) ∧ t.answerLine = false

/-- RESET_LINE and RESET_PART: everything takes its power-on value but the stock profiles and the Answer Layout, which are kept; both link slots hold RESET_DONE, and every output is at its reset level. While the RESET line is held, every command but POWER_ON and RESET_LINE leaves the part as it is, transactions on the three links and gate words included; and so does a transaction that met the line active (the line's level as a field and as an operand is the model's choice, log entry 19). So are RESET_DONE's reason 0 and empty payload (log entry 33). -/
def Obligations.PartResetKeepsProfilesAndLayout : Prop :=
  ∀ s : State,
    let after (held : Bool) : State :=
      { State.reset with
        profiles := s.profiles
        lookup := { State.reset.lookup with layout := s.lookup.layout }
        resetHeld := held
        pending := s.pending }
    (∀ held, exec (.resetLine held) s = .next (after held) ∧
      (after held).attnC = false ∧ (after held).attnG = false ∧ (after held).answerLine = false ∧
      (∀ l, (after held).holdLine l = false ∧ ((after held).lane l).duty = 0) ∧
      ∀ k, ((after held).link k).ready = true ∧
        ((after held).link k).slot = some { status := .resetDone, reason := .none, payload := [], ignored := false }) ∧
    (s.resetHeld = false → exec .resetPart s = .next (after false)) ∧
    (s.resetHeld = true → ∀ c : Instr, c ≠ .powerOn → (∀ held, c ≠ .resetLine held) → exec c s = .next s) ∧
    (∀ k bytes, exec (.linkTransaction k .resetLine bytes) s = .next s) ∧
    (∀ bytes, exec (.lookupLinkTransaction .resetLine bytes) s = .next s)

/-! ### The control and grading links -/

/-- A transaction with READY active that carries no request shifts out the reply in the slot, or NO_REPLY; a reply shifted out whole leaves the slot, and nothing else changes. A reply frame is its status, with the mark in the top bit, reason code, payload length, payload and check (R171, 11.7), each field in the link's byte order. That bits 4 to 6 of the status byte are 0, and that nothing is recorded as shifted out past the frame's last byte, are the model's choices (log entries 35 and 34). -/
def Obligations.LinkDeliversReply : Prop :=
  (∀ (s : State) (k : PortName) (bytes : List Byte),
    s.resetHeld = false → (s.link k).ready = true → carriesRequest bytes = false →
    exec (.linkTransaction k .ready bytes) s = .next (s.onLink k fun x =>
      let out := (x.slot.getD { status := .noReply, reason := .none, payload := [], ignored := false }).bytes x.order
      { x with slot := if out.length ≤ bytes.length then none else x.slot, shifted := out.take bytes.length })) ∧
  (∀ (r : Reply) (order : ByteOrder),
    let payload := r.payload.flatMap fun f => placed order f.size f.value
    Checked
      (BitVec.ofNat 8 (r.status.code + if r.ignored then 128 else 0) :: BitVec.ofNat 8 r.reason.code ::
        BitVec.ofNat 8 payload.length :: payload)
      (r.bytes order)) ∧
  [ReplyStatus.ok, .acceptedPending, .refused, .badFrame, .notPermitted, .busy, .noReply, .resetDone].map ReplyStatus.code =
    [0, 1, 2, 3, 4, 5, 6, 7] ∧
  [Reason.none, .badLane, .notEmpty, .badValue, .profileInvalid, .gaugeMismatch, .noReel, .closing, .wrongState,
    .badProfile, .inUse, .badSlot, .notLive, .already, .notOwner, .busy, .badFrameNumber, .noSpace, .noSuccessor,
    .ownerDiffers, .linkEnabled].map Reason.code = List.range 21

/-- A request that passes the tests of R173, with no reply left in the slot after the delivery, is dispatched: READY goes inactive, and a grading-link frame reloads the lease. (What is recorded as shifted out: log entry 34, the model's choice.) -/
def Obligations.LinkDispatchesRequest : Prop :=
  ∀ (s : State) (k : PortName) (bytes : List Byte) (c : Instr),
    s.resetHeld = false → (s.link k).ready = true → carriesRequest bytes = true →
    checkRequest k (s.link k).order bytes = .dispatch c →
    let out := ((s.link k).slot.getD { status := .noReply, reason := .none, payload := [], ignored := false }).bytes
      (s.link k).order
    (s.link k).slot = none ∨ out.length ≤ bytes.length →
    let u := if k = .grading then { s with lease := if s.leaseLength = 0 then none else some s.leaseLength } else s
    exec (.linkTransaction k .ready bytes) s = .next (u.onLink k fun x =>
      { x with slot := none, dispatched := some c, shifted := out.take bytes.length })

/-- The tests of R173 on the bytes shifted in, in their order: a frame that is not whole or has a bad sum is BAD_FRAME, a code not permitted on the link NOT_PERMITTED, a wrong payload length BAD_FRAME, and any other frame is dispatched. A request turned away by the link interface: BAD_FRAME or NOT_PERMITTED enters the slot at once with reason 0 and no payload, and READY stays active; over a reply not yet delivered whole the request is ignored and that reply takes the IGNORED_REQUEST mark. A grading-link frame with a good check reloads the lease in either case. A grading-link transaction that RESET_PART overtook delivers nothing, its request is ignored, and the RESET_DONE in the slot takes the mark (that it stays unmarked where no request was carried is the model's choice, log entry 31). (What is recorded as shifted out, and RESET_DONE's reason and payload: log entries 34 and 33, the model's choices.) -/
def Obligations.LinkTurnsRequestsAway : Prop :=
  (∀ (k : PortName) (order : ByteOrder) (bytes : List Byte),
    let code := (bytes.getD 0 0).toNat
    let n := (bytes.getD 1 0).toNat
    let whole := 3 ≤ bytes.length ∧ n ≤ 96 ∧ 3 + n ≤ bytes.length
    let sound := ((bytes.take (3 + n)).map BitVec.toNat).sum % 256 = 0
    (carriesRequest bytes = true ↔ bytes ≠ [] ∧ code ≠ 0 ∧ code ≠ 255) ∧
    (goodCheck bytes = true ↔ carriesRequest bytes = true ∧ whole ∧ sound) ∧
    (¬(whole ∧ sound) → checkRequest k order bytes = .badFrame) ∧
    (whole → sound → code ∉ codesOn k → checkRequest k order bytes = .notPermitted) ∧
    (whole → sound → code ∈ codesOn k → n ≠ payloadLength code (bytes.getD 2 0).toNat →
      checkRequest k order bytes = .badFrame) ∧
    (whole → sound → code ∈ codesOn k → n = payloadLength code (bytes.getD 2 0).toNat →
      ∃ c, checkRequest k order bytes = .dispatch c)) ∧
  (∀ (s : State) (k : PortName) (bytes : List Byte),
    s.resetHeld = false → (s.link k).ready = true → carriesRequest bytes = true →
    let out := ((s.link k).slot.getD { status := .noReply, reason := .none, payload := [], ignored := false }).bytes
      (s.link k).order
    let u := if k = .grading ∧ goodCheck bytes = true then
        { s with lease := if s.leaseLength = 0 then none else some s.leaseLength }
      else s
    ((s.link k).slot = none ∨ out.length ≤ bytes.length →
      (checkRequest k (s.link k).order bytes = .badFrame →
        exec (.linkTransaction k .ready bytes) s = .next (u.onLink k fun x =>
          { x with
            slot := some { status := .badFrame, reason := .none, payload := [], ignored := false }
            shifted := out.take bytes.length })) ∧
      (checkRequest k (s.link k).order bytes = .notPermitted →
        exec (.linkTransaction k .ready bytes) s = .next (u.onLink k fun x =>
          { x with
            slot := some { status := .notPermitted, reason := .none, payload := [], ignored := false }
            shifted := out.take bytes.length }))) ∧
    (∀ r, (s.link k).slot = some r → bytes.length < out.length →
      exec (.linkTransaction k .ready bytes) s = .next (u.onLink k fun x =>
        { x with slot := some { r with ignored := true }, shifted := out.take bytes.length }))) ∧
  (∀ (s : State) (bytes : List Byte), s.resetHeld = false →
    let u := if goodCheck bytes = true then
        { s with lease := if s.leaseLength = 0 then none else some s.leaseLength }
      else s
    exec (.linkTransaction .grading .resetPart bytes) s = .next (
      if carriesRequest bytes = true then
        u.onLink .grading fun x => { x with slot := x.slot.map fun r => { r with ignored := true } }
      else u)) ∧
  (∀ (s : State) (bytes : List Byte), s.resetHeld = false →
    ∃ t v, exec .resetPart s = .next t ∧ exec (.linkTransaction .grading .resetPart bytes) t = .next v ∧
      v.grading.ready = true ∧
      v.grading.slot =
        some { status := .resetDone, reason := .none, payload := [], ignored := carriesRequest bytes })

/-- A BUSY transaction shifts out a BUSY frame and changes neither the slot nor the request in progress; a grading-link frame with a good check still reloads the lease. (What is recorded as shifted out: log entry 34, the model's choice.) -/
def Obligations.BusyTransaction : Prop :=
  ∀ (s : State) (k : PortName) (o : Opening) (bytes : List Byte),
    s.resetHeld = false → o = .busy ∨ (o = .ready ∧ (s.link k).ready = false) →
    let u := if k = .grading ∧ goodCheck bytes = true then
        { s with lease := if s.leaseLength = 0 then none else some s.leaseLength }
      else s
    exec (.linkTransaction k o bytes) s = .next (u.onLink k fun x =>
      { x with
        shifted := (({ status := .busy, reason := .none, payload := [], ignored := false } : Reply).bytes x.order).take
          bytes.length })

/-- Every request, laid out as 11.7 gives with a good check, in either byte order, is read back by the link interface as that request with every operand, on the link or links that carry it. -/
def Obligations.RequestFramesReadBack : Prop :=
  ∀ (c : Instr) (k : PortName) (order : ByteOrder) (bytes : List Byte),
    c.wellFormed = true → requestLink c = some k → requestFrame order c = some bytes →
    carriesRequest bytes = true ∧ goodCheck bytes = true ∧ checkRequest k order bytes = .dispatch c

/-- A LOOKUP or SUMMARY frame, in either byte order, is read back as that request with every operand. -/
def Obligations.LookupFramesReadBack : Prop :=
  ∀ (c : Instr) (order : ByteOrder) (bytes : List Byte),
    c.wellFormed = true → lookupFrame order c = some bytes →
    carriesRequest bytes = true ∧ lookupRequest order bytes = some c

/-- SET_LINK writes the byte order of the link that carried it and nothing else; any other value is BAD_VALUE 1. -/
def Obligations.SetLinkWritesItsOwnOrder : Prop :=
  ∀ (s : State) (k : PortName) (n : Nat), s.resetHeld = false →
    (n = 0 → exec (.setLink k n) s = .next ((s.onLink k fun x => { x with order := .msFirst }).ok k)) ∧
    (n = 1 → exec (.setLink k n) s = .next ((s.onLink k fun x => { x with order := .lsFirst }).ok k)) ∧
    (2 ≤ n → exec (.setLink k n) s = .next (s.refuseValue k 1))

/-! ### Reel commands -/

/-- LOAD_REEL: the tests of R28 in their order, each with its refusal, and the loading; no other record changes. -/
def Obligations.LoadReelTestsAndEffect : Prop :=
  ∀ (s : State) (lane tag gauge profile cadence : Nat), s.resetHeld = false →
    exec (.loadReel lane tag gauge profile cadence) s = .next (
      if hl : lane < 4 then
        let l : Lane := ⟨lane, hl⟩
        if (s.lane l).reel.state ≠ .empty then s.refuse .control .notEmpty
        else if 3 < gauge then s.refuseValue .control 3
        else if cadence ≠ 0 ∧ cadence ≠ 16 ∧ cadence ≠ 18 ∧ cadence ≠ 24 then s.refuseValue .control 5
        else if hp : profile < 16 then
          let p : ProfileNo := ⟨profile, hp⟩
          if (s.profile p).valid = false then s.refuse .control .profileInvalid
          else if (s.profile p).gauge.code ≠ gauge then s.refuse .control .gaugeMismatch
          else
            (s.onReel l fun _ =>
              { state := .loaded
                chain := []
                load := some { tag := tag, gauge := (s.profile p).gauge, profile := p, cadence := cadence } }).ok .control
        else s.refuse .control .profileInvalid
      else s.refuse .control .badLane)

/-- START, PAUSE and RESUME taken, and UNLOAD of a LOADED reel: the reel's state, the tracker and the lamp duty change as R29, R30, R31, R32 and R57 give, with REEL_RETIRED at that UNLOAD, and nothing else but the reply. -/
def Obligations.StartPauseResumeTaken : Prop :=
  ∀ (s : State) (l : Lane), s.resetHeld = false →
    ((s.lane l).reel.state = .loaded →
      exec (.start l.val) s = .next ((s.onLane l fun d =>
        { d with
          reel := { d.reel with state := .scanning }
          tracker :=
            { state := .threading, current := none, lastPosition := none, deadline := none, coastRun := 0,
              drift := none, pitchRun := none, relock := [] }
          duty := (s.laneProfile l).defaultLamp }).ok .control)) ∧
    ((s.lane l).reel.state = .scanning →
      exec (.pause l.val) s = .next ((s.onLane l fun d =>
        { d with
          reel := { d.reel with state := .paused }
          tracker := { d.tracker with state := .paused, drift := none, pitchRun := none } }).ok .control)) ∧
    ((s.lane l).reel.state = .paused → s.chain l ≠ [] →
      exec (.resume l.val) s = .next ((s.onLane l fun d =>
        { d with
          reel := { d.reel with state := .scanning }
          tracker := { d.tracker with state := .relocking, relock := [] } }).ok .control)) ∧
    ((s.lane l).reel.state = .paused → s.chain l = [] →
      exec (.resume l.val) s = .next ((s.onLane l fun d =>
        { d with
          reel := { d.reel with state := .scanning }
          tracker := { d.tracker with state := .threading, relock := [] }
          duty := (s.laneProfile l).defaultLamp }).ok .control)) ∧
    ((s.lane l).reel.state = .loaded →
      exec (.unload l.val) s = .next ((s.onLane l fun d =>
        { d with
          reel := { d.reel with state := .empty, load := none }
          notices := d.notices.set 10 { raised := true, latest := none } }).ok .control))

/-- A reel command in a state from which it has no transition, or on a lane above 3, is refused with its reason and changes no record. -/
def Obligations.ReelCommandsRefused : Prop :=
  ∀ (s : State) (l : Lane), s.resetHeld = false →
    ((s.lane l).reel.state = .empty →
      ∀ c ∈ [Instr.start l.val, .pause l.val, .resume l.val, .unload l.val],
        exec c s = .next (s.refuse .control .noReel)) ∧
    ((s.lane l).reel.state = .closing →
      ∀ c ∈ [Instr.start l.val, .pause l.val, .resume l.val, .unload l.val],
        exec c s = .next (s.refuse .control .closing)) ∧
    ((s.lane l).reel.state = .loaded →
      ∀ c ∈ [Instr.pause l.val, .resume l.val], exec c s = .next (s.refuse .control .wrongState)) ∧
    ((s.lane l).reel.state = .scanning →
      ∀ c ∈ [Instr.start l.val, .resume l.val], exec c s = .next (s.refuse .control .wrongState)) ∧
    ((s.lane l).reel.state = .paused →
      ∀ c ∈ [Instr.start l.val, .pause l.val], exec c s = .next (s.refuse .control .wrongState)) ∧
    ((s.lane l).reel.state = .ended →
      ∀ c ∈ [Instr.start l.val, .pause l.val, .resume l.val], exec c s = .next (s.refuse .control .wrongState)) ∧
    (∀ lane, 4 ≤ lane →
      ∀ c ∈ [Instr.start lane, .pause lane, .resume lane, .unload lane, .laneReset lane, .readLane lane],
        exec c s = .next (s.refuse .control .badLane))

/-- UNLOAD of a SCANNING, PAUSED or ENDED reel. The film side of the lane is shut, with the lamp dark. The queued candidates' accumulators are handed back to the open segment, which is closed at the current frame and settles if it was MEASURING; a REGRADING segment stops, SETTLED with its accumulator cleared; each has its revision raised once, and every segment becomes RETIRING. The lane's AHEAD and CANDIDATE entries are answered CLOSED and its SEGMENT entries are answered SETTLED from the segment that holds their frame, or wait on it, all in acceptance order. Then a segment that nothing holds is freed, in chain order; the reel is CLOSING, or EMPTY with REEL_RETIRED when no segment is left. The other lanes are as they were. (That one UNLOAD raises a revision once is the model's choice: log entry 8.) -/
def Obligations.UnloadClosesReel : Prop :=
  ∀ (s : State) (l : Lane), s.resetHeld = false → SlotLaws s →
    (s.lane l).reel.state = .scanning ∨ (s.lane l).reel.state = .paused ∨ (s.lane l).reel.state = .ended →
    ∃ t, exec (.unload l.val) s = .next t ∧
      (t.lane l).tracker.state = .idle ∧ (t.lane l).tracker.coastRun = 0 ∧ (t.lane l).tracker.drift = none ∧
      (t.lane l).tracker.pitchRun = none ∧ (t.lane l).tracker.relock = [] ∧
      (t.lane l).queue = [] ∧ (t.lane l).measure = none ∧ (t.lane l).duty = 0 ∧
      (∀ i ∈ t.chain l, ∃ r, t.seg i = some r ∧ r.life = .retiring ∧ t.held i r = true) ∧
      (t.chain l).Sublist (s.chain l) ∧
      (t.chain l ≠ [] → (t.lane l).reel.state = .closing ∧
        (t.lane l).tracker.current = (s.lane l).tracker.current ∧
        (t.lane l).tracker.lastPosition = (s.lane l).tracker.lastPosition) ∧
      (t.chain l = [] → (t.lane l).reel.state = .empty ∧ (t.lane l).reel.load = none ∧
        (t.lane l).tracker.current = none ∧ (t.lane l).tracker.lastPosition = none ∧
        (t.lane l).tracker.deadline = none ∧ (t.lane l).notices[10] = { raised := true, latest := none }) ∧
      (∀ e ∈ t.lookup.deferred, e.lane = l → ∃ i, e.reason = .segment i) ∧
      t.control.slot = some { status := .ok, reason := .none, payload := [], ignored := false } ∧
      t.control.ready = true ∧ t.grading = s.grading ∧ t.profiles = s.profiles ∧
      (∀ k, k ≠ l → t.lane k = s.lane k) ∧
      (∀ i, i ∉ s.chain l → t.seg i = s.seg i) ∧
      t.freeList = s.freeList ++ (s.chain l).filter (fun i => (t.seg i).isNone) ∧
      t.chain l = (s.chain l).filter (fun i => (t.seg i).isSome) ∧
      ∀ c, (∀ i r, s.openSeg l = some (i, r) → (s.lane l).tracker.current = some c) →
        let handed (r : Segment) : Segment :=
          (s.lane l).queue.foldl (fun q e => takingBack (s.profile r.profile).windowSize q e.acc) r
        let closed (i : Slot) (r : Segment) : Segment :=
          let q :=
            if s.openSlot l = some i then closedAtEnd (s.profile r.profile) (s.lane l).measure (s.lane l).queue c r else r
          let q := if q.phase = .regrading then
              { q with phase := .settled, acc := Accum.zero, revision := nextRevision r.revision }
            else q
          { q with life := .retiring }
        let holder (f : Nat) : Option (Slot × Segment) :=
          (s.chain l).findSome? fun i => (s.seg i).bind fun r =>
            let q := closed i r
            if q.first ≤ f ∧ (∀ n ∈ q.last, f ≤ n) then some (i, q) else none
        let outcome (e : Deferral) : Deferral ⊕ Answer :=
          let answer (status : AnswerStatus) (slots : List Nat) : Deferral ⊕ Answer :=
            .inr { tag := e.tag, status := status, lane := e.lane, frame := e.frame, slots := slots }
          if e.lane ≠ l then .inl e
          else if e.reason = .ahead ∨ e.reason = .candidate then answer .closed (s.lookup.layout.map fun _ => 0)
          else
            match holder e.frame with
            | none => .inl e
            | some (i, q) =>
              if q.phase = .settled then answer .settled (s.lookup.layout.map (FieldCode.value e.frame i q))
              else .inl { e with reason := .segment i }
        (∀ i ∈ s.chain l, ∀ r, s.seg i = some r → t.seg i =
          if (closed i r).owner = .console ∨ (closed i r).takePending = true ∨ (closed i r).phase = .measuring ∨
              (closed i r).phase = .computing ∨ (∃ e ∈ t.lookup.deferred, e.reason = .segment i) then
            some (closed i r)
          else none) ∧
        t.lookup =
          { s.lookup with
            deferred := (s.lookup.deferred.map outcome).filterMap Sum.getLeft?
            answers := s.lookup.answers ++ (s.lookup.deferred.map outcome).filterMap Sum.getRight? } ∧
        (t.lane l).notices = raisedBy
          ((match s.openSeg l with
            | some (i, r) => if r.phase = .measuring then settleNotices i (handed r) else []
            | none => []) ++
           ((s.chain l).filter fun i => (s.seg i).any fun r =>
              decide (r.phase = .regrading) && decide ((closed i r).phase = .settled)).map (fun i => (9, some i)) ++
           (if t.chain l = [] then [(10, none)] else []))
          (s.lane l).notices ∧
        (EngineLaws s → JoinedBy
          (match s.openSeg l with
           | some (i, r) => handBackJoins i r (handed r) ++ (if r.phase = .measuring then settleJoins i (handed r) else [])
           | none => [])
          s t)

/-- LANE_RESET: the lane's slots go to the tail of the Free List in chain order and leave the Compute Queue and the engine, the lane's record is as after power-on but for its policy and latest-slot values, its deferrals are answered CLOSED in acceptance order, and nothing else changes. -/
def Obligations.LaneResetClearsLane : Prop :=
  ∀ (s : State) (l : Lane), s.resetHeld = false → SlotLaws s → EngineLaws s →
    let engine := if ∃ i ∈ s.chain l, s.engine = some i then none else s.engine
    let waiting := s.computeQueue.filter fun i => decide (i ∉ s.chain l)
    ∃ t, exec (.laneReset l.val) s = .next t ∧
      t.freeList = s.freeList ++ s.chain l ∧
      (∀ i ∈ s.chain l, t.seg i = none) ∧ (∀ i, i ∉ s.chain l → t.seg i = s.seg i) ∧
      t.lane l =
        { LaneState.reset with
          notices := (s.lane l).notices.map fun f => { f with raised := false }
          policies := (s.lane l).policies } ∧
      (∀ k, k ≠ l → t.lane k = s.lane k) ∧
      (t.engine = if engine = none then waiting.head? else engine) ∧
      (t.computeQueue = if engine = none then waiting.tail else waiting) ∧
      t.lookup =
        { s.lookup with
          deferred := s.lookup.deferred.filter fun e => decide (e.lane ≠ l)
          answers := s.lookup.answers ++ (s.lookup.deferred.filter fun e => decide (e.lane = l)).map fun e =>
            { tag := e.tag, status := .closed, lane := e.lane, frame := e.frame
              slots := s.lookup.layout.map fun _ => 0 } } ∧
      t.control =
        { s.control with
          slot := some { status := .ok, reason := .none, payload := [], ignored := false }
          dispatched := none } ∧
      t.grading = s.grading ∧ t.profiles = s.profiles ∧ t.lease = s.lease ∧ t.leaseLength = s.leaseLength ∧
      t.tick = s.tick ∧ t.limit = s.limit ∧ t.partNotices = s.partNotices ∧ t.partPolicies = s.partPolicies

/-! ### Profile commands -/

/-- SET_PROFILE of a profile that no reel names, with every field in its range: the record takes the values, fields 7, 10 and 11 their defaults where not given, the valid mark becomes yes, and no other record changes. -/
def Obligations.SetProfileTaken : Prop :=
  ∀ (s : State) (p : ProfileNo) (f : ProfileFields) (gauge : Gauge),
    let size := if f.windowMark = 1 then f.windowSize else 12
    let black := if f.blackMark = 1 then f.targetBlack else 256
    let white := if f.whiteMark = 1 then f.targetWhite else 3840
    s.resetHeld = false → s.inUse p = 0 → f.gauge = gauge.code →
    20000 ≤ f.nominalPitch ∧ f.nominalPitch ≤ 80000 → 1 ≤ f.pitchTolerance ∧ f.pitchTolerance ≤ 100 →
    5 ≤ f.captureWindow ∧ f.captureWindow ≤ 45 → f.minStrength ≤ 15 → 1 ≤ f.coastLimit ∧ f.coastLimit ≤ 8 →
    f.windowMark ≤ 1 → 8 ≤ size ∧ size ≤ 32 → 5 ≤ f.driftLimit ∧ f.driftLimit ≤ 500 →
    1 ≤ f.densityThreshold ∧ f.densityThreshold ≤ 1023 → f.blackMark ≤ 1 → black ≤ 4095 → f.whiteMark ≤ 1 →
    black < white ∧ white ≤ 4095 → f.fade ≤ 15 ∨ f.fade = 255 → f.defaultLamp ≤ 1023 →
    -4000 ≤ f.travelOffset ∧ f.travelOffset ≤ 4000 → -2000 ≤ f.lateralOffset ∧ f.lateralOffset ≤ 2000 →
    f.cadence = 0 ∨ f.cadence = 16 ∨ f.cadence = 18 ∨ f.cadence = 24 →
    let written : Profile :=
      { valid := true, gauge := gauge, nominalPitch := f.nominalPitch, pitchTolerance := f.pitchTolerance,
        captureWindow := f.captureWindow, minStrength := f.minStrength, coastLimit := f.coastLimit, windowSize := size,
        driftLimit := f.driftLimit, densityThreshold := f.densityThreshold, targetBlack := black, targetWhite := white,
        fade := if f.fade = 255 then none else some f.fade, defaultLamp := f.defaultLamp,
        travelOffset := f.travelOffset, lateralOffset := f.lateralOffset, cadence := f.cadence }
    exec (.setProfile p.val f) s = .next ({ s with profiles := s.profiles.set p.val written }.ok .control)

/-- SET_PROFILE refused: a number above 15, a profile in use, and the lowest-numbered field out of range, each of the sixteen, fields 7, 10 and 11 as given or defaulted and field 11 also where it is not above field 10. -/
def Obligations.SetProfileRefused : Prop :=
  ∀ (s : State) (f : ProfileFields), s.resetHeld = false →
    let size := if f.windowMark = 1 then f.windowSize else 12
    let black := if f.blackMark = 1 then f.targetBlack else 256
    let white := if f.whiteMark = 1 then f.targetWhite else 3840
    let outside : List (Nat × Prop) :=
      [(1, 3 < f.gauge), (2, f.nominalPitch < 20000 ∨ 80000 < f.nominalPitch),
       (3, f.pitchTolerance < 1 ∨ 100 < f.pitchTolerance), (4, f.captureWindow < 5 ∨ 45 < f.captureWindow),
       (5, 15 < f.minStrength), (6, f.coastLimit < 1 ∨ 8 < f.coastLimit), (7, 1 < f.windowMark ∨ size < 8 ∨ 32 < size),
       (8, f.driftLimit < 5 ∨ 500 < f.driftLimit), (9, f.densityThreshold < 1 ∨ 1023 < f.densityThreshold),
       (10, 1 < f.blackMark ∨ 4095 < black), (11, 1 < f.whiteMark ∨ white ≤ black ∨ 4095 < white),
       (12, 15 < f.fade ∧ f.fade ≠ 255), (13, 1023 < f.defaultLamp), (14, f.travelOffset < -4000 ∨ 4000 < f.travelOffset),
       (15, f.lateralOffset < -2000 ∨ 2000 < f.lateralOffset),
       (16, f.cadence ≠ 0 ∧ f.cadence ≠ 16 ∧ f.cadence ≠ 18 ∧ f.cadence ≠ 24)]
    (∀ n, 16 ≤ n → exec (.setProfile n f) s = .next (s.refuse .control .badProfile)) ∧
    (∀ p : ProfileNo, s.inUse p ≠ 0 → exec (.setProfile p.val f) s = .next (s.refuse .control .inUse)) ∧
    (∀ (p : ProfileNo) (lower : List (Nat × Prop)) (n : Nat) (bad : Prop) (higher : List (Nat × Prop)),
      s.inUse p = 0 → outside = lower ++ (n, bad) :: higher → (∀ q ∈ lower, ¬q.2) → bad →
      exec (.setProfile p.val f) s = .next (s.refuseValue .control n))

/-- INVALIDATE_PROFILE: a number above 15 and a profile in use are refused; otherwise the valid mark becomes no and the fields are kept, so that READ_PROFILE returns them with the mark no. LOAD_REEL that names an invalid profile is refused with PROFILE_INVALID, and no command but SET_PROFILE makes a profile valid. -/
def Obligations.InvalidateProfile : Prop :=
  (∀ (s : State) (n : Nat), s.resetHeld = false → 16 ≤ n → exec (.invalidateProfile n) s = .next (s.refuse .control .badProfile)) ∧
  (∀ (s : State) (p : ProfileNo), s.resetHeld = false → s.inUse p ≠ 0 →
    exec (.invalidateProfile p.val) s = .next (s.refuse .control .inUse)) ∧
  (∀ (s : State) (p : ProfileNo), s.resetHeld = false → s.inUse p = 0 →
    ∃ t, t = { s with profiles := s.profiles.set p.val { s.profile p with valid := false } } ∧
      exec (.invalidateProfile p.val) s = .next (t.ok .control) ∧
      t.profileReport p = (s.profileReport p).set 1 (wire 1 0) ∧
      exec (.readProfile p.val) t = .next (t.ok .control (t.profileReport p))) ∧
  (∀ (s : State) (p : ProfileNo) (l : Lane) (tag gauge cadence : Nat), s.resetHeld = false → (s.profile p).valid = false →
    (s.lane l).reel.state = .empty → gauge ≤ 3 → cadence = 0 ∨ cadence = 16 ∨ cadence = 18 ∨ cadence = 24 →
    exec (.loadReel l.val tag gauge p.val cadence) s = .next (s.refuse .control .profileInvalid)) ∧
  (∀ (s t : State) (p : ProfileNo) (c : Instr), (s.profile p).valid = false → exec c s = .next t →
    (t.profile p).valid = true → ∃ fields, c = .setProfile p.val fields)

/-- READ_PROFILE: refused with BAD_PROFILE above 15; else the reply carries the number, the valid mark, the number of reels that name the profile (at most 4) and the sixteen fields as they stand, and no record changes. The fields are as SET_PROFILE last wrote them, or as at power-on: no other command changes one. -/
def Obligations.ReadProfile : Prop :=
  (∀ (s : State) (n : Nat), s.resetHeld = false → 16 ≤ n → exec (.readProfile n) s = .next (s.refuse .control .badProfile)) ∧
  (∀ (s : State) (p : ProfileNo), s.resetHeld = false → s.inUse p ≤ 4 ∧
    (let q := s.profile p
     exec (.readProfile p.val) s = .next (s.ok .control
      [wire 1 p.val, wire 1 q.valid.toNat, wire 1 (s.inUse p), wire 1 q.gauge.code, wire 3 q.nominalPitch,
       wire 1 q.pitchTolerance, wire 1 q.captureWindow, wire 1 q.minStrength, wire 1 q.coastLimit, wire 1 q.windowSize,
       wire 2 q.driftLimit, wire 2 q.densityThreshold, wire 2 q.targetBlack, wire 2 q.targetWhite, wireOpt 1 q.fade,
       wire 2 q.defaultLamp, wire 2 q.travelOffset, wire 2 q.lateralOffset, wire 1 q.cadence]))) ∧
  (∀ (s t : State) (p : ProfileNo) (c : Instr), exec c s = .next t →
    { t.profile p with valid := (s.profile p).valid } ≠ s.profile p →
    c = .powerOn ∨ ∃ fields, c = .setProfile p.val fields)

/-! ### Settings -/

/-- SET_LAYOUT: refused while the link is enabled, for a count outside 1 to 12 and at the first unknown code; else the list becomes the layout and nothing else changes. -/
def Obligations.SetLayoutTestsAndEffect : Prop :=
  ∀ (s : State) (codes : List Nat), s.resetHeld = false →
    (s.lookup.enabled = true → exec (.setLayout codes) s = .next (s.refuse .control .linkEnabled)) ∧
    (s.lookup.enabled = false → codes.length < 1 ∨ 12 < codes.length →
      exec (.setLayout codes) s = .next (s.refuseValue .control 0)) ∧
    (s.lookup.enabled = false → 1 ≤ codes.length → codes.length ≤ 12 →
      (∀ known unknown rest, codes = known ++ unknown :: rest → (∀ n ∈ known, n ≤ 16) → 16 < unknown →
        exec (.setLayout codes) s = .next (s.refuseValue .control (known.length + 1))) ∧
      (∀ layout : List FieldCode, codes.map FieldCode.ofCode = layout.map some →
        exec (.setLayout codes) s = .next ({ s with lookup := { s.lookup with layout := layout } }.ok .control)))

/-- SET_LOOKUP_LINK: the table of R150, each row with its reply, and BAD_VALUE 1 or 2 for an enable or a byte order of no meaning (that the enable is tested first is the model's choice, log entry 32). Disabling discards every entry and every answer; then each RETIRING segment that a discarded entry awaited and that nothing else holds is freed, the lowest lane first and each reel in chain order, every other segment stays as it was, and a CLOSING reel left with no segment becomes EMPTY with REEL_RETIRED. -/
def Obligations.SetLookupLinkTable : Prop :=
  (∀ (s : State) (m n : Nat), s.resetHeld = false →
    (2 ≤ m → exec (.setLookupLink m n) s = .next (s.refuseValue .control 1)) ∧
    (m ≤ 1 → 2 ≤ n → exec (.setLookupLink m n) s = .next (s.refuseValue .control 2))) ∧
  ∀ (s : State) (order : ByteOrder) (n : Nat), s.resetHeld = false → byteOrderOf n = some order →
    (s.lookup.enabled = false →
      exec (.setLookupLink 0 n) s = .next ({ s with lookup := { s.lookup with order := order } }.ok .control) ∧
      exec (.setLookupLink 1 n) s =
        .next ({ s with lookup := { s.lookup with order := order, enabled := true } }.ok .control)) ∧
    (s.lookup.enabled = true →
      (order = s.lookup.order → exec (.setLookupLink 1 n) s = .next (s.ok .control)) ∧
      (order ≠ s.lookup.order → exec (.setLookupLink 1 n) s = .next (s.refuse .control .linkEnabled)) ∧
      let released (i : Slot) : Bool :=
        s.lookup.deferred.any (fun e => decide (e.reason = .segment i)) &&
          (match s.seg i with
           | some r => decide (r.life = .retiring ∧ r.owner = .auto ∧ r.takePending = false ∧ r.phase ≠ .measuring ∧
               r.phase ≠ .computing)
           | none => false)
      ∃ t, exec (.setLookupLink 0 n) s = .next t ∧
        t.lookup = { s.lookup with enabled := false, order := order, deferred := [], answers := [], status := .none } ∧
        t.control =
          { s.control with
            slot := some { status := .ok, reason := .none, payload := [], ignored := false }
            dispatched := none } ∧
        t.grading = s.grading ∧
        t.answerLine = false ∧ (EngineLaws s → t.computeQueue = s.computeQueue ∧ t.engine = s.engine) ∧
        t.profiles = s.profiles ∧ (∀ l, (t.lane l).queue = (s.lane l).queue) ∧
        (∀ i r, s.seg i = some r → r.life = .live → t.seg i = some r) ∧
        (SlotLaws s → t.freeList = s.freeList ++ s.chains.filter released ∧
          (∀ i, t.seg i = if released i then none else s.seg i) ∧
          (∀ l, t.chain l = (s.chain l).filter fun i => !released i) ∧
          (∀ l, (s.lane l).reel.state = .closing → s.chain l ≠ [] → (∀ i ∈ s.chain l, released i = true) →
            (t.lane l).reel = { state := .empty, load := none, chain := [] } ∧
            (t.lane l).tracker.current = none ∧ (t.lane l).notices[10] = { raised := true, latest := none })))

/-- SET_POLICY: the three fields are written for a lane kind on the named lane, or on all four for 255, or for a part-wide kind on the part, and nothing else changes. Refused with BAD_VALUE naming a kind above 15 (2), BAD_LANE for a lane kind on no lane, and BAD_VALUE naming a notice enable above 1 (3), a route above 2 (4), and a hold enable above 1 or set for a part-wide kind (5), in that order (that notice enable comes before route is read from their order in one row of R166, log entry 32). -/
def Obligations.SetPolicyTaken : Prop :=
  ∀ (s : State) (n code : Nat) (enable hold : Bool) (route : Route), s.resetHeld = false → Route.ofCode code = some route →
    (∀ k : Fin 11, n < 4 ∨ n = 255 → ∃ t : State, exec (.setPolicy n k.val enable.toNat code hold.toNat) s = .next (t.ok .control) ∧
      t = { s with lanes := t.lanes } ∧
      ∀ l : Lane, t.lane l =
        if n = 255 ∨ n = l.val then
          { s.lane l with policies := (s.lane l).policies.set k.val { enable := enable, route := route, hold := hold } }
        else s.lane l) ∧
    (∀ k : Fin 5, exec (.setPolicy n (11 + k.val) enable.toNat code 0) s =
      .next ({ s with partPolicies := s.partPolicies.set k.val { enable := enable, route := route, hold := false } }.ok
        .control)) ∧
    (∀ k, 16 ≤ k → exec (.setPolicy n k enable.toNat code hold.toNat) s = .next (s.refuseValue .control 2)) ∧
    (∀ k, k < 11 → 4 ≤ n → n ≠ 255 →
      exec (.setPolicy n k enable.toNat code hold.toNat) s = .next (s.refuse .control .badLane)) ∧
    (∀ k on dest held, (k < 11 ∧ (n < 4 ∨ n = 255)) ∨ (11 ≤ k ∧ k < 16) →
      (2 ≤ on → exec (.setPolicy n k on dest held) s = .next (s.refuseValue .control 3)) ∧
      (on ≤ 1 → 3 ≤ dest → exec (.setPolicy n k on dest held) s = .next (s.refuseValue .control 4)) ∧
      (on ≤ 1 → dest ≤ 2 → 2 ≤ held ∨ (held = 1 ∧ 11 ≤ k) →
        exec (.setPolicy n k on dest held) s = .next (s.refuseValue .control 5)))

/-- SET_TIMERS: the three settings are written together, a lease length of 0 stops the timer at once, and a field out of range is refused with its number. -/
def Obligations.SetTimersTestsAndEffect : Prop :=
  ∀ (s : State) (tick limit lease : Nat), s.resetHeld = false →
    (∀ select, TickSelect.ofCode tick = some select → 1 ≤ limit → limit ≤ 255 → lease ≤ 255 →
      exec (.setTimers tick limit lease) s =
        .next ({ s with
          tick := select
          limit := limit
          leaseLength := lease
          lease := if lease = 0 then none else s.lease }.ok .control)) ∧
    (3 ≤ tick → exec (.setTimers tick limit lease) s = .next (s.refuseValue .control 1)) ∧
    (tick < 3 → limit = 0 ∨ 255 < limit → exec (.setTimers tick limit lease) s = .next (s.refuseValue .control 2)) ∧
    (tick < 3 → 1 ≤ limit → limit ≤ 255 → 255 < lease →
      exec (.setTimers tick limit lease) s = .next (s.refuseValue .control 3))

/-- CLEAR_NOTICE: the flags asked for are cleared where the link may clear them, latest-slot values are kept, the reply carries the mask of kinds cleared or that would have been, and nothing else changes. A bad lane is BAD_LANE and a bad mask BAD_VALUE 2; that the lane is tested first where both are bad is the model's choice (log entry 30). -/
def Obligations.ClearNoticeByMask : Prop :=
  ∀ (s : State) (k : PortName) (n mask : Nat), s.resetHeld = false →
    (4 ≤ n → n ≠ 255 → exec (.clearNotice k n mask) s = .next (s.refuse k .badLane)) ∧
    (n < 4 ∨ n = 255 → 65536 ≤ mask → exec (.clearNotice k n mask) s = .next (s.refuseValue k 2)) ∧
    (n < 4 ∨ n = 255 → mask < 65536 →
      ∃ (t : State) (m : Nat), exec (.clearNotice k n mask) s = .next (t.ok k [wire 3 m]) ∧
        t = { s with lanes := t.lanes, partNotices := t.partNotices } ∧
        (∀ l : Lane, t.lane l = { s.lane l with notices := (t.lane l).notices }) ∧
        (∀ (l : Lane) (j : Fin 11), (t.lane l).notices[j] =
          if (n = 255 ∨ n = l.val) ∧ mask.testBit j.val = true ∧
              (k = .control ∨ (s.lane l).policies[j].route ≠ .control) then
            { (s.lane l).notices[j] with raised := false }
          else (s.lane l).notices[j]) ∧
        (∀ j : Fin 5, t.partNotices[j] =
          if mask.testBit (11 + j.val) = true ∧ (k = .control ∨ s.partPolicies[j].route ≠ .control) then
            { s.partNotices[j] with raised := false }
          else s.partNotices[j]) ∧
        m < 65536 ∧
        (∀ j : Fin 11, m.testBit j.val = true ↔ mask.testBit j.val = true ∧
          ∃ l : Lane, (n = 255 ∨ n = l.val) ∧ (k = .control ∨ (s.lane l).policies[j].route ≠ .control)) ∧
        (∀ j : Fin 5, m.testBit (11 + j.val) = true ↔ mask.testBit (11 + j.val) = true ∧
          (k = .control ∨ s.partPolicies[j].route ≠ .control)))

/-- ATTN-C and ATTN-G are active exactly when some set flag is enabled and routed to them, and a HOLD line exactly when some set lane flag of its lane has hold enable. -/
def Obligations.LinesFollowFlagsAndPolicy : Prop :=
  ∀ s : State,
    (s.attnC = true ↔
      (∃ (l : Lane) (k : Fin 11), (s.lane l).notices[k].raised = true ∧ (s.lane l).policies[k].enable = true ∧
        (s.lane l).policies[k].route ≠ .grading) ∨
      (∃ k : Fin 5, s.partNotices[k].raised = true ∧ s.partPolicies[k].enable = true ∧
        s.partPolicies[k].route ≠ .grading)) ∧
    (s.attnG = true ↔
      (∃ (l : Lane) (k : Fin 11), (s.lane l).notices[k].raised = true ∧ (s.lane l).policies[k].enable = true ∧
        (s.lane l).policies[k].route ≠ .control) ∨
      (∃ k : Fin 5, s.partNotices[k].raised = true ∧ s.partPolicies[k].enable = true ∧
        s.partPolicies[k].route ≠ .control)) ∧
    (∀ l : Lane, s.holdLine l = true ↔
      ∃ k : Fin 11, (s.lane l).notices[k].raised = true ∧ (s.lane l).policies[k].hold = true)

/-! ### Console requests -/

/-- TAKE of a LIVE segment owned by AUTO with no take pending, by its phase: at once in MEASURING and SETTLED, at once with the regrade cancelled in REGRADING, pending in the engine, and at once out of the Compute Queue. Refused with CLOSING for a RETIRING segment, with ALREADY for one owned by the console or with a take pending. -/
def Obligations.TakeByPhase : Prop :=
  ∀ (s : State) (i : Slot) (r : Segment), s.resetHeld = false → s.seg i = some r →
    (r.life = .retiring → exec (.take i.val) s = .next (s.refuse .grading .closing)) ∧
    (r.life = .live → r.owner = .console ∨ r.takePending = true →
      exec (.take i.val) s = .next (s.refuse .grading .already)) ∧
    (r.life = .live → r.owner = .auto → r.takePending = false →
    (r.phase = .measuring ∨ r.phase = .settled →
      exec (.take i.val) s = .next
        ((s.putSeg i (some { r with owner := .console, revision := nextRevision r.revision })).ok .grading)) ∧
    (r.phase = .regrading →
      exec (.take i.val) s = .next
        (((s.putSeg i (some { r with
            phase := .settled
            acc := Accum.zero
            owner := .console
            revision := nextRevision r.revision })).raise r.lane .segmentSettled (some i)).ok .grading)) ∧
    (r.phase = .computing → s.engine = some i →
      exec (.take i.val) s = .next
        ((s.putSeg i (some { r with takePending := true })).reply .grading .acceptedPending .none [])) ∧
    (r.phase = .computing → s.engine ≠ some i →
      exec (.take i.val) s = .next
        (((({ s.putSeg i (some { r with
              phase := .settled
              owner := .console
              revision := nextRevision r.revision
              luminance := if 4 ≤ r.acc.count then
                  some ((r.acc.mean.r + r.acc.mean.g + r.acc.mean.b) / (3 * r.acc.count)) else r.luminance }) with
            computeQueue := s.computeQueue.erase i }).raise r.lane .segmentSettled (some i)).recheck
              fun e => decide (e.reason = DeferReason.segment i)).ok .grading)))

/-- RELEASE: owner AUTO and revision +1 with the grade kept, HANDBACK with the slot; a LIVE segment changes in nothing else, and a RETIRING one that nothing holds is freed. NOT_OWNER for an AUTO segment. -/
def Obligations.ReleaseHandsBack : Prop :=
  ∀ (s : State) (i : Slot) (r : Segment), s.resetHeld = false → s.seg i = some r →
    (r.owner = .auto → exec (.release i.val) s = .next (s.refuse .grading .notOwner)) ∧
    (r.owner = .console → r.life = .live →
      exec (.release i.val) s = .next
        (({ s.putSeg i (some { r with owner := .auto, revision := nextRevision r.revision }) with
            partNotices := s.partNotices.set 0 { raised := true, latest := some i } }).ok .grading)) ∧
    (SlotLaws s → r.owner = .console → r.life = .retiring → r.takePending = false → r.phase = .settled →
      (∀ e ∈ s.lookup.deferred, e.reason ≠ .segment i) →
      ∃ t, exec (.release i.val) s = .next t ∧ t.seg i = none ∧ t.freeList = s.freeList ++ [i] ∧
        t.chain r.lane = (s.chain r.lane).erase i ∧ t.partNotices[0] = { raised := true, latest := some i } ∧
        (∀ j, j ≠ i → t.seg j = s.seg j) ∧ t.lookup = s.lookup ∧
        t.grading.slot = some { status := .ok, reason := .none, payload := [], ignored := false } ∧
        ((s.lane r.lane).reel.state = .closing → s.chain r.lane = [i] →
          (t.lane r.lane).reel = { state := .empty, load := none, chain := [] } ∧
          (t.lane r.lane).notices[10] = { raised := true, latest := none }))

/-- SET_GRADE, SET_OFFSET, SET_LAMP and SET_CADENCE on a segment owned by the console, LIVE or RETIRING: the fields named take the values together, the revision goes up by 1 whatever the values were, SET_GRADE makes the source CONSOLE, and nothing else changes. The lowest-numbered field out of range is refused with its number, 1 to 7 for SET_GRADE. NOT_OWNER for an AUTO segment. (For SET_OFFSET, that the travel offset is tested first is read from the order of its fields: log entry 32.) -/
def Obligations.ConsoleWritesTaken : Prop :=
  ∀ (s : State) (i : Slot) (r : Segment), s.resetHeld = false → s.seg i = some r →
    (r.owner = .console →
      (∀ (lift : Rgb Int) (gain : Rgb Nat) (fade : Nat),
        -2048 ≤ lift.r ∧ lift.r ≤ 2047 → -2048 ≤ lift.g ∧ lift.g ≤ 2047 → -2048 ≤ lift.b ∧ lift.b ≤ 2047 →
        256 ≤ gain.r ∧ gain.r ≤ 4096 → 256 ≤ gain.g ∧ gain.g ≤ 4096 → 256 ≤ gain.b ∧ gain.b ≤ 4096 →
        fade ≤ 15 ∨ fade = 255 →
        exec (.setGrade i.val lift gain fade) s = .next
          ((s.putSeg i (some { r with
              lift := lift
              gain := gain
              fade := if fade = 255 then none else some fade
              source := .console
              revision := nextRevision r.revision })).ok .grading)) ∧
      (∀ along across : Int, -4000 ≤ along ∧ along ≤ 4000 → -2000 ≤ across ∧ across ≤ 2000 →
        exec (.setOffset i.val along across) s = .next
          ((s.putSeg i (some { r with
              travelOffset := along
              lateralOffset := across
              revision := nextRevision r.revision })).ok .grading)) ∧
      (∀ lamp, lamp ≤ 1023 →
        exec (.setLamp i.val lamp) s = .next
          ((s.putSeg i (some { r with lamp := lamp, revision := nextRevision r.revision })).ok .grading)) ∧
      (∀ cadence, cadence = 0 ∨ cadence = 16 ∨ cadence = 18 ∨ cadence = 24 →
        exec (.setCadence i.val cadence) s = .next
          ((s.putSeg i (some { r with cadence := cadence, revision := nextRevision r.revision })).ok .grading))) ∧
    (r.owner = .console → ∀ (lift : Rgb Int) (gain : Rgb Nat) (fade lamp cadence : Nat) (along across : Int),
      (let outside : List (Nat × Prop) :=
        [(1, lift.r < -2048 ∨ 2047 < lift.r), (2, lift.g < -2048 ∨ 2047 < lift.g), (3, lift.b < -2048 ∨ 2047 < lift.b),
         (4, gain.r < 256 ∨ 4096 < gain.r), (5, gain.g < 256 ∨ 4096 < gain.g), (6, gain.b < 256 ∨ 4096 < gain.b),
         (7, 15 < fade ∧ fade ≠ 255)]
       ∀ (lower : List (Nat × Prop)) (n : Nat) (bad : Prop) (higher : List (Nat × Prop)),
        outside = lower ++ (n, bad) :: higher → (∀ q ∈ lower, ¬q.2) → bad →
        exec (.setGrade i.val lift gain fade) s = .next (s.refuseValue .grading n)) ∧
      (along < -4000 ∨ 4000 < along → exec (.setOffset i.val along across) s = .next (s.refuseValue .grading 1)) ∧
      (-4000 ≤ along ∧ along ≤ 4000 → across < -2000 ∨ 2000 < across →
        exec (.setOffset i.val along across) s = .next (s.refuseValue .grading 2)) ∧
      (1023 < lamp → exec (.setLamp i.val lamp) s = .next (s.refuseValue .grading 1)) ∧
      (cadence ≠ 0 ∧ cadence ≠ 16 ∧ cadence ≠ 18 ∧ cadence ≠ 24 →
        exec (.setCadence i.val cadence) s = .next (s.refuseValue .grading 1))) ∧
    (r.owner = .auto → ∀ (lift : Rgb Int) (gain : Rgb Nat) (fade lamp cadence : Nat) (along across : Int),
      ∀ c ∈ [Instr.setGrade i.val lift gain fade, .setOffset i.val along across, .setLamp i.val lamp,
          .setCadence i.val cadence], exec c s = .next (s.refuse .grading .notOwner))

/-- CUT, refused in the order of R124 with CLOSING, BUSY, BAD_FRAME_NUMBER and NO_SPACE; and the CUT of a LIVE SETTLED segment at a frame inside it, past its first: the head of the Free List takes the second part, the two records are as R125 gives, the second part stands next in the chain, a CUT of the open segment drops the queued candidates at or before the frame, the lane's deferrals are re-checked, and the reply carries the new slot. -/
def Obligations.CutSplitsSegment : Prop :=
  ∀ (s : State) (i : Slot) (a : Segment) (f last : Nat), s.resetHeld = false → s.seg i = some a →
    a.last = some last ∨ (a.last = none ∧ (s.lane a.lane).tracker.current = some last) →
    (a.life = .retiring → exec (.cut i.val f) s = .next (s.refuse .grading .closing)) ∧
    (a.life = .live → a.phase ≠ .settled → exec (.cut i.val f) s = .next (s.refuse .grading .busy)) ∧
    (a.life = .live → a.phase = .settled → f ≤ a.first ∨ last < f →
      exec (.cut i.val f) s = .next (s.refuse .grading .badFrameNumber)) ∧
    (a.life = .live → a.phase = .settled → a.first < f → f ≤ last →
      s.freeList = [] ∨ 64 ≤ (s.chain a.lane).length →
      exec (.cut i.val f) s = .next (s.refuse .grading .noSpace)) ∧
    (∀ (j : Slot) (rest : List Slot) (d : ReelLoad), a.life = .live → a.phase = .settled → a.first < f → f ≤ last →
    s.freeList = j :: rest → (s.chain a.lane).length < 64 → (s.lane a.lane).reel.load = some d →
    let b : Segment :=
      { lane := a.lane, life := .live, revision := 1, first := f, last := a.last, origin := .operatorCut,
        phase := .settled, anchorFrame := f,
        anchorPosition := a.anchorPosition + roundDiv (((f : Int) - a.anchorFrame) * a.pitch) 10,
        pitch := a.pitch, perforations := min 65535 (last - f + 1), coasts := 0, travelOffset := a.travelOffset,
        lateralOffset := a.lateralOffset, lift := a.lift, gain := a.gain, fade := a.fade, lamp := a.lamp,
        cadence := a.cadence, source := a.source, luminance := a.luminance, acc := Accum.zero, owner := a.owner,
        takePending := false, profile := d.profile }
    let cut := ({ s with freeList := rest }.putSeg i
      (some { a with last := some (f - 1), revision := nextRevision a.revision })).putSeg j (some b)
    let placed := cut.onLane a.lane fun x =>
      { x with
        reel := { x.reel with chain := insertAfter i j x.reel.chain }
        queue := if a.last = none then x.queue.filter fun e => decide (f < e.frame) else x.queue }
    exec (.cut i.val f) s = .next ((placed.recheck fun e => decide (e.lane = a.lane)).ok .grading [wire 1 j.val]))

/-- JOIN, refused in the order of R127 with CLOSING, NO_SUCCESSOR, BUSY and OWNER_DIFFERS; and the JOIN of a LIVE SETTLED segment with its SETTLED successor of the same owner: the survivor takes the successor's last frame and the sum of the counts with revision +1, the successor leaves the chain for the tail of the Free List, the lane's deferrals are re-checked, no other segment, queue or lane record changes, and the reply is OK. -/
def Obligations.JoinAbsorbsSuccessor : Prop :=
  ∀ (s : State) (i : Slot) (a : Segment), s.resetHeld = false → s.seg i = some a →
    (a.life = .retiring → exec (.join i.val) s = .next (s.refuse .grading .closing)) ∧
    (∀ front, a.life = .live → s.chain a.lane = front ++ [i] → i ∉ front →
      exec (.join i.val) s = .next (s.refuse .grading .noSuccessor)) ∧
    (∀ (j : Slot) (b : Segment) (front back : List Slot), a.life = .live →
      s.chain a.lane = front ++ i :: j :: back → i ∉ front → s.seg j = some b →
      (a.phase ≠ .settled ∨ b.phase ≠ .settled → exec (.join i.val) s = .next (s.refuse .grading .busy)) ∧
      (a.phase = .settled → b.phase = .settled →
        (a.owner ≠ b.owner ∨ a.takePending = true ∨ b.takePending = true →
          exec (.join i.val) s = .next (s.refuse .grading .ownerDiffers)) ∧
        (a.owner = b.owner → a.takePending = false → b.takePending = false → SlotLaws s → EngineLaws s →
          ∃ t, exec (.join i.val) s = .next t ∧
            t.seg i = some { a with
              last := b.last
              coasts := min 65535 (a.coasts + b.coasts)
              perforations := min 65535 (a.perforations + b.perforations)
              revision := nextRevision a.revision } ∧
            t.seg j = none ∧ t.freeList = s.freeList ++ [j] ∧ t.chain a.lane = front ++ i :: back ∧
            (∀ k, k ≠ i → k ≠ j → t.seg k = s.seg k) ∧
            (∀ l, t.lane l = { s.lane l with reel := (t.lane l).reel }) ∧
            (∀ l, (t.lane l).reel = { (s.lane l).reel with chain := t.chain l }) ∧
            (∀ l, l ≠ a.lane → t.chain l = s.chain l) ∧
            t.computeQueue = s.computeQueue ∧ t.engine = s.engine ∧ t.profiles = s.profiles ∧
            t.control = s.control ∧ t.lease = s.lease ∧ t.partNotices = s.partNotices ∧
            t.reservations = s.reservations ∧
            t.lookup = recheckedUnit t (fun e => decide (e.lane = a.lane)) s.lookup ∧
            t.grading =
              { s.grading with
                slot := some { status := .ok, reason := .none, payload := [], ignored := false }
                dispatched := none })))

/-- R108. REGRADE, on either link: the tests of R108 in their order, each with its refusal; and a LIVE SETTLED segment owned by AUTO enters REGRADING with its accumulator cleared, source INHERITED and revision +1, its settled luminance kept, and nothing else changes. -/
def Obligations.RegradeTestsAndEffect : Prop :=
  ∀ (s : State) (k : PortName), s.resetHeld = false →
    (∀ n, 160 ≤ n → exec (.regrade k n) s = .next (s.refuse k .badSlot)) ∧
    (∀ i : Slot, s.seg i = none → exec (.regrade k i.val) s = .next (s.refuse k .notLive)) ∧
    ∀ (i : Slot) (r : Segment), s.seg i = some r →
      exec (.regrade k i.val) s = .next (
        if r.life = .retiring then s.refuse k .closing
        else if r.owner = .console then s.refuse k .notOwner
        else if r.phase = .regrading then s.refuse k .already
        else if r.phase = .measuring ∨ r.phase = .computing then s.refuse k .busy
        else (s.putSeg i (some { r with
          phase := .regrading
          acc := Accum.zero
          source := .inherited
          revision := nextRevision r.revision })).ok k)

/-- The ten requests that act on a named slot (TAKE, RELEASE, SET_GRADE, SET_OFFSET, SET_LAMP, SET_CADENCE, CUT, JOIN, REGRADE, FORCE_RELEASE): one that names a FREE slot is refused with NOT_LIVE, and one that names a slot above 159 with BAD_SLOT, slot 255 included, but for FORCE_RELEASE, where 255 is ALL. READ_SEGMENT is not among them: it reports a FREE slot (R25). -/
def Obligations.RequestsOnFreeSlotsRefused : Prop :=
  ∀ (s : State) (k : PortName) (lift : Rgb Int) (gain : Rgb Nat) (along across : Int) (fade lamp cadence frame n : Nat),
    s.resetHeld = false →
    let nine : List (PortName × Instr) :=
      [(.grading, .take n), (.grading, .release n), (.grading, .setGrade n lift gain fade),
       (.grading, .setOffset n along across), (.grading, .setLamp n lamp), (.grading, .setCadence n cadence),
       (.grading, .cut n frame), (.grading, .join n), (k, .regrade k n)]
    (∀ i : Slot, n = i.val → s.seg i = none →
      ∀ p ∈ nine ++ [(.control, .forceRelease n)], exec p.2 s = .next (s.refuse p.1 .notLive)) ∧
    (160 ≤ n → ∀ p ∈ nine, exec p.2 s = .next (s.refuse p.1 .badSlot)) ∧
    (160 ≤ n → n ≠ 255 → exec (.forceRelease n) s = .next (s.refuse .control .badSlot))

/-- FORCE_RELEASE of one segment: NOT_OWNER when nothing holds it, else owner AUTO with revision +1, or the pending take cancelled, with FORCED_RELEASE and the slot. FORCE_RELEASE with ALL, and the lease expiry, which is the lease tick that brings the count from 1 to 0: afterwards no segment is owned by the console and no take is pending; every LIVE segment that was held becomes AUTO with revision +1, or loses its pending take, and is otherwise unchanged; the notice of the event is raised exactly when one was held, with no latest-slot; the lease expiry stops the timer. Each of the three leaves the part as holdsDropped writes it out: RETIRING segments drop their holds as LIVE ones do, and those that nothing else holds are then freed, lowest lane first and in chain order, a closing that has none left ending with REEL_RETIRED (R156-R158). The reply of FORCE_RELEASE is OK. -/
def Obligations.HoldsDropped : Prop :=
  (∀ (s : State) (i : Slot) (r : Segment), s.resetHeld = false → s.seg i = some r →
    (r.owner = .auto → r.takePending = false → exec (.forceRelease i.val) s = .next (s.refuse .control .notOwner)) ∧
    (r.life = .live → r.owner = .console ∨ r.takePending = true →
      exec (.forceRelease i.val) s = .next
        (({ s.putSeg i (some { r with
              owner := .auto
              takePending := false
              revision := if r.owner = Owner.console then nextRevision r.revision else r.revision }) with
            partNotices := s.partNotices.set 3 { raised := true, latest := some i } }).ok .control))) ∧
  (∀ s : State, s.resetHeld = false → SlotLaws s → EngineLaws s →
    (∀ i r, s.seg i = some r → r.owner = .console ∨ r.takePending = true →
      exec (.forceRelease i.val) s = .next ((holdsDropped (fun j => decide (j = i)) 3 (some i) s).ok .control)) ∧
    exec (.forceRelease 255) s = .next ((holdsDropped (fun _ => true) 3 none s).ok .control) ∧
    (s.lease = some 1 → ∀ c ∈ [Instr.leaseTick, .leaseExpiry],
      exec c s = .next { holdsDropped (fun _ => true) 2 none s with lease := none })) ∧
  ∀ s : State, s.resetHeld = false → EngineLaws s →
    ∀ p ∈ [(Instr.forceRelease 255, (3 : Fin 5)), (Instr.leaseTick, (2 : Fin 5)), (Instr.leaseExpiry, (2 : Fin 5))],
    (p.2 = 2 → s.lease = some 1) →
    ∃ t, exec p.1 s = .next t ∧
      (∀ i r, t.seg i = some r → r.owner = .auto ∧ r.takePending = false) ∧
      (∀ i r, s.seg i = some r → r.life = .live →
        t.seg i = some { r with
          owner := .auto
          takePending := false
          revision := if r.owner = .console then nextRevision r.revision else r.revision }) ∧
      (∀ k : Fin 5, t.partNotices[k] =
        if k = p.2 ∧ ∃ i r, s.seg i = some r ∧ (r.owner = .console ∨ r.takePending = true) then
          { raised := true, latest := none }
        else s.partNotices[k]) ∧
      (p.2 = 2 → t.lease = none) ∧ (p.2 ≠ 2 → t.lease = s.lease) ∧
      t.lookup = s.lookup ∧ t.computeQueue = s.computeQueue ∧ t.engine = s.engine ∧ t.profiles = s.profiles

/-- The lease: a tick subtracts 1 from a RUNNING timer's count, the tick that brings the count to 0 is the lease expiry and leaves the timer STOPPED, and a STOPPED timer stays. The row LEASE_EXPIRY names that last tick, so with a count above 1 or a STOPPED timer it has no effect (log entry 11, DEDUCED). RENEW has the reply OK and changes no record; where it does not complete a dispatched RENEW it reloads the timer (the model's choice, log entry 4). -/
def Obligations.LeaseTickAndRenew : Prop :=
  ∀ s : State, s.resetHeld = false →
    (∀ n, s.lease = some n → 2 ≤ n → exec .leaseTick s = .next { s with lease := some (n - 1) } ∧
      exec .leaseExpiry s = .next s) ∧
    (s.lease = some 1 → exec .leaseTick s = exec .leaseExpiry s ∧ ∃ t, exec .leaseTick s = .next t ∧ t.lease = none) ∧
    (s.lease = none → exec .leaseTick s = .next s ∧ exec .leaseExpiry s = .next s) ∧
    (s.grading.dispatched = some .renew → exec .renew s = .next (s.ok .grading)) ∧
    (s.grading.dispatched ≠ some .renew →
      exec .renew s = .next
        ({ s with lease := if s.leaseLength = 0 then none else some s.leaseLength }.ok .grading))

/-! ### Reads -/

/-- LIST_REEL: BAD_LANE above 3; else the reply carries the lane, the reel state, the chain length, the position asked for and up to 8 entries from that position on in chain order, and no record changes. A position at or past the chain length gives none; a chain of up to 64 is read whole at positions 0, 8, ... 56. -/
def Obligations.ListReel : Prop :=
  (∀ (s : State) (k : PortName) (lane position : Nat), s.resetHeld = false → 4 ≤ lane →
    exec (.listReel k lane position) s = .next (s.refuse k .badLane)) ∧
  (∀ (s : State) (k : PortName) (l : Lane) (position : Nat), s.resetHeld = false →
    (∀ i ∈ s.chain l, s.seg i ≠ none) →
    ∃ entries : List (Slot × Segment),
      entries.map Prod.fst = ((s.chain l).drop position).take 8 ∧
      (∀ p ∈ entries, s.seg p.1 = some p.2) ∧
      ((s.chain l).length ≤ position → entries = []) ∧
      exec (.listReel k l.val position) s = .next (s.ok k
        ([wire 1 l.val, wire 1 (s.lane l).reel.state.code, wire 1 (s.chain l).length, wire 1 position,
          wire 1 entries.length] ++
          entries.flatMap fun p =>
            [wire 1 p.1.val, wire 3 p.2.first, wireOpt 3 p.2.last, wire 1 p.2.phase.code, wire 1 p.2.owner.code,
             wire 1 p.2.takePending.toNat, wire 1 p.2.life.code]))) ∧
  (∀ (s : State) (l : Lane), (s.chain l).length ≤ 64 →
    s.chain l = [0, 8, 16, 24, 32, 40, 48, 56].flatMap fun position => ((s.chain l).drop position).take 8)

/-- READ_LANE, READ_SEGMENT and READ_NOTICES answer OK with the payload of 11.7, field by field, and change nothing but the reply in their link's slot. READ_LANE reports the reel (tag 0 and the rest absent with none loaded), tracker, head candidate (0 with an empty queue) and lamp. READ_SEGMENT reports a LIVE or RETIRING record, and a FREE slot with life FREE and nothing else (its slot byte 0 too: log entry 14, DEDUCED). READ_NOTICES reports the flags of the lane and of the part with their latest slots, the lanes with a flag set and the line levels. A lane above 3 is BAD_LANE, a slot above 159 BAD_SLOT. -/
def Obligations.ReadsReportAndChangeNothing : Prop :=
  ∀ (s : State) (k : PortName), s.resetHeld = false →
    (∀ n, 4 ≤ n → exec (.readLane n) s = .next (s.refuse .control .badLane) ∧
      exec (.readNotices k n) s = .next (s.refuse k .badLane)) ∧
    (∀ n, 160 ≤ n → exec (.readSegment k n) s = .next (s.refuse k .badSlot)) ∧
    (∀ l : Lane,
      let d := s.lane l
      exec (.readLane l.val) s = .next (s.ok .control
        ([wire 1 l.val, wire 1 d.reel.state.code] ++
         (match d.reel.load with
          | none => [wire 4 0, wire 1 255, wire 1 255, wire 1 255]
          | some x => [wire 4 x.tag, wire 1 x.gauge.code, wire 1 x.profile.val, wire 1 x.cadence]) ++
         [wire 1 d.reel.chain.length, wire 1 d.tracker.state.code,
          wire 3 (match d.tracker.current with | none => (-1 : Int) | some c => c),
          wire 4 (match d.tracker.lastPosition with | none => (-1 : Int) | some x => x), wire 1 d.tracker.coastRun,
          wire 1 (match d.tracker.drift with | none => (0 : Nat) | some run => run.count), wire 1 d.queue.length] ++
         (match d.queue with
          | [] => [wire 3 0, wire 1 0, wire 1 0, wire 2 0, wire 1 0]
          | h :: _ =>
            [wire 3 h.frame, wire 1 h.kind.origin.code, wire 1 h.state.code, wire 2 h.span, wire 1 h.evidence.code]) ++
         [wire 2 d.duty]))) ∧
    (∀ (i : Slot) (r : Segment), s.seg i = some r →
      exec (.readSegment k i.val) s = .next (s.ok k
        [wire 1 i.val, wire 1 r.lane.val, wire 1 (match r.life with | .live => (1 : Nat) | .retiring => 2),
         wire 4 r.revision, wire 3 r.first, wire 3 (match r.last with | none => (-1 : Int) | some n => n),
         wire 1 r.origin.code, wire 1 r.phase.code, wire 3 r.anchorFrame, wire 4 r.anchorPosition, wire 3 r.pitch,
         wire 2 r.perforations, wire 2 r.coasts, wire 2 r.travelOffset, wire 2 r.lateralOffset, wire 2 r.lift.r,
         wire 2 r.lift.g, wire 2 r.lift.b, wire 2 r.gain.r, wire 2 r.gain.g, wire 2 r.gain.b,
         wire 1 (match r.fade with | none => (-1 : Int) | some n => n), wire 2 r.lamp, wire 1 r.cadence,
         wire 1 r.source.code, wire 2 (match r.luminance with | none => (-1 : Int) | some n => n), wire 1 r.acc.count,
         wire 1 r.owner.code, wire 1 (if r.takePending then (1 : Nat) else 0), wire 1 r.profile.val])) ∧
    (∀ i : Slot, s.seg i = none →
      exec (.readSegment k i.val) s = .next (s.ok k
        [wire 1 0, wire 1 0, wire 1 0, wire 4 0, wire 3 0, wire 3 (-1), wire 1 0, wire 1 0, wire 3 0, wire 4 0, wire 3 0,
         wire 2 0, wire 2 0, wire 2 0, wire 2 0, wire 2 0, wire 2 0, wire 2 0, wire 2 0, wire 2 0, wire 2 0,
         wire 1 (-1), wire 2 0, wire 1 0, wire 1 0, wire 2 (-1), wire 1 0, wire 1 0, wire 1 0, wire 1 0])) ∧
    (∀ l : Lane, ∃ flags lanes lines : Nat,
      exec (.readNotices k l.val) s = .next (s.ok k
        ([wire 1 l.val, wire 3 flags] ++
         (List.finRange 11).map (fun j => wireOpt 1 ((s.lane l).notices[j].latest.map Fin.val)) ++
         (List.finRange 5).map (fun j => wireOpt 1 (s.partNotices[j].latest.map Fin.val)) ++
         [wire 1 lanes, wire 1 lines])) ∧
      flags < 65536 ∧ lanes < 16 ∧ lines < 64 ∧
      (∀ j : Fin 11, flags.testBit j.val = (s.lane l).notices[j].raised) ∧
      (∀ j : Fin 5, flags.testBit (11 + j.val) = s.partNotices[j].raised) ∧
      (∀ m : Lane, lanes.testBit m.val = true ↔ ∃ j : Fin 11, (s.lane m).notices[j].raised = true) ∧
      lines.testBit 0 = s.attnC ∧ lines.testBit 1 = s.attnG ∧
      ∀ m : Lane, lines.testBit (2 + m.val) = s.holdLine m)

/-! ### Lookups -/

/-- The find of R23, on a lane's chain, and the classification of R136, by its tests in their order. -/
def Obligations.ClassificationOrder : Prop :=
  ∀ (s : State) (l : Lane) (f : Nat),
    (∀ i r, s.find l f = .found i r →
      i ∈ s.chain l ∧ s.seg i = some r ∧ r.first ≤ f ∧ ∀ n, r.last = some n → f ≤ n) ∧
    (∀ i ∈ s.chain l, ∀ r, s.seg i = some r → r.first ≤ f → (∀ n, r.last = some n → f ≤ n) →
      ∃ j q, s.find l f = .found j q) ∧
    ((s.lane l).reel.state = .empty ∨ (s.lane l).reel.state = .loaded → s.classify l f = .plain .noReel) ∧
    ((s.lane l).reel.state = .closing → s.classify l f = .plain .closed) ∧
    ((s.lane l).reel.state = .ended → (∀ i r, s.find l f ≠ .found i r) → s.classify l f = .plain .outOfRange) ∧
    ((s.lane l).reel.state = .scanning ∨ (s.lane l).reel.state = .paused →
      (∀ c, (s.lane l).tracker.current = some c → c < f) → s.classify l f = .defer .ahead) ∧
    (∀ i r, s.find l f = .found i r →
      (s.lane l).reel.state = .ended ∨
        (((s.lane l).reel.state = .scanning ∨ (s.lane l).reel.state = .paused) ∧
          ∃ c, (s.lane l).tracker.current = some c ∧ f ≤ c) →
      (∀ h rest, (s.lane l).queue = h :: rest → h.frame ≤ f → s.classify l f = .defer .candidate) ∧
      ((∀ h rest, (s.lane l).queue = h :: rest → f < h.frame) →
        (r.phase = .measuring ∨ r.phase = .computing → s.classify l f = .defer (.segment i)) ∧
        (r.phase = .settled ∨ r.phase = .regrading → s.classify l f = .source i r)))

/-- R135. LOOKUP: the tests of R135 in their order; an accepted one is answered or deferred by its classification, with BUSY when it must wait and 12 entries wait already, and nothing but the lookup unit's entries, answers and status changes. -/
def Obligations.LookupTestsAndEffect : Prop :=
  ∀ (s : State) (tag lane frame : Nat), s.resetHeld = false →
    (s.lookup.enabled = false →
      exec (.lookup tag lane frame) s = .next { s with lookup := { s.lookup with status := .disabled } }) ∧
    (s.lookup.enabled = true → 4 ≤ lane ∨ 1048575 < frame →
      exec (.lookup tag lane frame) s = .next { s with lookup := { s.lookup with status := .badFrame } }) ∧
    (s.lookup.enabled = true → frame ≤ 1048575 → ∀ l : Lane, lane = l.val →
      (16 ≤ s.lookup.answers.length + s.lookup.deferred.length →
        exec (.lookup tag lane frame) s = .next { s with lookup := { s.lookup with status := .refusedFull } }) ∧
      (s.lookup.answers.length + s.lookup.deferred.length < 16 →
        let unit := { s.lookup with status := .accepted }
        let plain (x : AnswerStatus) : Answer :=
          { tag := tag, status := x, lane := l, frame := frame, slots := s.lookup.layout.map fun _ => 0 }
        (∀ x, s.classify l frame = .plain x →
          exec (.lookup tag lane frame) s = .next { s with lookup := { unit with answers := s.lookup.answers ++ [plain x] } }) ∧
        (∀ i r, s.classify l frame = .source i r →
          exec (.lookup tag lane frame) s = .next { s with lookup := { unit with
            answers := s.lookup.answers ++ [
              { tag := tag, status := .settled, lane := l, frame := frame
                slots := s.lookup.layout.map (FieldCode.value frame i r) }] } }) ∧
        (∀ reason, s.classify l frame = .defer reason → s.lookup.deferred.length < 12 →
          exec (.lookup tag lane frame) s = .next { s with lookup := { unit with
            deferred := s.lookup.deferred ++ [
              { tag := tag, lane := l, frame := frame, reason := reason, remaining := s.limit }] } }) ∧
        (∀ reason, s.classify l frame = .defer reason → 12 ≤ s.lookup.deferred.length →
          exec (.lookup tag lane frame) s =
            .next { s with lookup := { unit with answers := s.lookup.answers ++ [plain .busy] } })))

/-- An answer on the wire (R148), in the link's byte order: tag, status code, lane, frame, slot count, the slots, and a check byte with which all sum to 0 modulo 256; 9 bytes and 2 for each slot. What the slot of each field code carries from a source segment: 0 for NONE, the slot, the halves of the revision and of the answered POSITION (the position its model gives the frame plus the travel offset, clamped to 0 to 2,147,483,647), the lateral offset and lifts in two's complement, gains, fade curve (65,535 when absent), lamp, cadence, and the flags REGRADING, COASTED, DEFAULTED, CONSOLE and PROVISIONAL_PITCH at bits 0 to 4. -/
def Obligations.AnswerLengthAndCheck : Prop :=
  (∀ (a : Answer) (order : ByteOrder),
    (a.bytes order).length = 9 + 2 * a.slots.length ∧
    Checked
      (placed order 2 a.tag ++ [BitVec.ofNat 8 a.status.code, BitVec.ofNat 8 a.lane.val] ++ placed order 3 a.frame ++
        [BitVec.ofNat 8 a.slots.length] ++ a.slots.flatMap fun (v : Nat) => placed order 2 v)
      (a.bytes order)) ∧
  [AnswerStatus.settled, .provisional, .noReel, .closed, .outOfRange, .busy].map AnswerStatus.code = [1, 2, 3, 4, 5, 6] ∧
  (∀ (f : Nat) (i : Slot) (r : Segment),
    let position : Int := max 0 (min 2147483647
      (r.anchorPosition + roundDiv (((f : Int) - r.anchorFrame) * r.pitch) 10 + r.travelOffset))
    let carries (c : FieldCode) (v : Int) : Prop := ((FieldCode.value f i r c : Nat) : Int) = v % 65536
    carries .none 0 ∧ carries .segment i.val ∧ carries .revisionHigh (r.revision / 65536) ∧
    carries .revisionLow r.revision ∧ carries .positionHigh (position / 65536) ∧ carries .positionLow position ∧
    carries .lateral r.lateralOffset ∧ carries .liftR r.lift.r ∧ carries .liftG r.lift.g ∧ carries .liftB r.lift.b ∧
    carries .gainR r.gain.r ∧ carries .gainG r.gain.g ∧ carries .gainB r.gain.b ∧
    (r.fade = none → carries .fade 65535) ∧ (∀ n, r.fade = some n → carries .fade n) ∧ carries .lamp r.lamp ∧
    carries .cadence r.cadence ∧
    FieldCode.value f i r .flags < 32 ∧
    ((FieldCode.value f i r .flags).testBit 0 = true ↔ r.phase = .regrading) ∧
    ((FieldCode.value f i r .flags).testBit 1 = true ↔ 0 < r.coasts) ∧
    ((FieldCode.value f i r .flags).testBit 2 = true ↔ r.source = .defaulted) ∧
    ((FieldCode.value f i r .flags).testBit 3 = true ↔ r.owner = .console) ∧
    ((FieldCode.value f i r .flags).testBit 4 = true ↔ r.phase = .measuring)) ∧
  FieldCode.ofCode 17 = none ∧
  [0, 1, 2, 3, 4, 5, 6, 7, 8, 9, 10, 11, 12, 13, 14, 15, 16].map FieldCode.ofCode =
    [FieldCode.none, .segment, .revisionHigh, .revisionLow, .positionHigh, .positionLow, .lateral, .liftR, .liftG, .liftB,
     .gainR, .gainG, .gainB, .fade, .lamp, .cadence, .flags].map some

/-- A lookup-link transaction that carries no request: the head answer leaves the queue when every byte of it was shifted out, and stays otherwise; one that shifted out the EMPTY marker (the queue was empty when it began, as it was where the byte order was rewritten since, the link being disabled then), or that a disable or a reset overtook, removes nothing; the status becomes NONE, and nothing else changes (what an overtaken transaction records as shifted out is the model's choice, log entry 29). That nothing is recorded past the answer's last byte is the model's choice too (log entry 34). -/
def Obligations.LookupTransactionDelivers : Prop :=
  ∀ (s : State) (bytes : List Byte), s.resetHeld = false → carriesRequest bytes = false →
    (∀ a rest, s.lookup.answers = a :: rest →
      exec (.lookupLinkTransaction .plain bytes) s = .next { s with lookup := { s.lookup with
        answers := if 10 + 2 * a.slots.length ≤ bytes.length then rest else a :: rest
        status := .none
        shifted := (BitVec.ofNat 8 s.lookup.status.code :: a.bytes s.lookup.order).take bytes.length } }) ∧
    (∀ o, o = .emptyMarker ∨ o = .otherOrder ∨ o = .overtaken ∨ (o = .plain ∧ s.lookup.answers = []) →
      exec (.lookupLinkTransaction o bytes) s = .next { s with lookup := { s.lookup with
        status := .none
        shifted := (BitVec.ofNat 8 s.lookup.status.code :: List.replicate 9 0).take bytes.length } })

/-- A frame on the lookup link is whole, and so names a request, when its type byte is 1 with 8 bytes shifted in or 2 with 24, and those bytes sum to 0 modulo 256 (R175). A lookup-link transaction's request is taken after the delivery: a whole LOOKUP or SUMMARY as its own command on the state the delivery left, and a frame that is not taken sets BAD_FRAME; the frame is read in the byte order that was in force when chip select fell. Only a transaction with an answer at the head when it began delivers one. A transaction that a disable or a reset overtook delivers nothing, and its whole request is refused with DISABLED (what it records as shifted out is the model's choice, log entry 29). (Nor is anything recorded past the answer's last byte: log entry 34.) -/
def Obligations.LookupTransactionTakesRequest : Prop :=
  (∀ (order : ByteOrder) (bytes : List Byte),
    let sound (n : Nat) := n ≤ bytes.length ∧ ((bytes.take n).map BitVec.toNat).sum % 256 = 0
    (bytes.head? = some 1 → sound 8 → ∃ tag lane frame, lookupRequest order bytes = some (.lookup tag lane frame)) ∧
    (bytes.head? = some 2 → sound 24 →
      ∃ lane frame black white mean, lookupRequest order bytes = some (.summary lane frame black white mean)) ∧
    (¬(bytes.head? = some 1 ∧ sound 8) → ¬(bytes.head? = some 2 ∧ sound 24) → lookupRequest order bytes = none)) ∧
  ∀ (s : State) (o : LookupOpening) (bytes : List Byte), s.resetHeld = false → carriesRequest bytes = true →
    o ≠ .resetLine →
    let order := if o = .otherOrder then flipOrder s.lookup.order else s.lookup.order
    let head := if o = .plain then s.lookup.answers.head? else none
    let out := BitVec.ofNat 8 s.lookup.status.code ::
      (match head with | none => List.replicate 9 0 | some a => a.bytes s.lookup.order)
    let delivered := { s with lookup := { s.lookup with
      answers := if head ≠ none ∧ out.length ≤ bytes.length then s.lookup.answers.tail else s.lookup.answers
      status := .none
      shifted := out.take bytes.length } }
    (∀ c, lookupRequest order bytes = some c →
      (o ≠ .overtaken → exec (.lookupLinkTransaction o bytes) s = exec c delivered) ∧
      (o = .overtaken → exec (.lookupLinkTransaction o bytes) s =
        .next { delivered with lookup := { delivered.lookup with status := .disabled } })) ∧
    (lookupRequest order bytes = none →
      exec (.lookupLinkTransaction o bytes) s =
        .next { delivered with lookup := { delivered.lookup with status := .badFrame } })

/-! ### Summaries -/

/-- SUMMARY refused, by the tests of R99 in their order: the link disabled, a lane, a frame or one of the nine values out of range, no reel to take it, an ENDED reel's frame past the last, a frame not yet taken, and a frame that no segment of the chain holds. The status alone changes. -/
def Obligations.SummaryRefused : Prop :=
  ∀ (s : State) (frame : Nat) (black white mean : Rgb Nat), s.resetHeld = false →
    (∀ lane, s.lookup.enabled = false →
      exec (.summary lane frame black white mean) s = .next { s with lookup := { s.lookup with status := .disabled } }) ∧
    (s.lookup.enabled = true →
      (∀ lane, 4 ≤ lane ∨ 1048575 < frame ∨
          (∃ v ∈ [black.r, black.g, black.b, white.r, white.g, white.b, mean.r, mean.g, mean.b], 4095 < v) →
        exec (.summary lane frame black white mean) s =
          .next { s with lookup := { s.lookup with status := .badFrame } }) ∧
      (∀ l : Lane, frame ≤ 1048575 → statisticsOk black = true → statisticsOk white = true → statisticsOk mean = true →
        ((s.lane l).reel.state = .empty ∨ (s.lane l).reel.state = .loaded ∨ (s.lane l).reel.state = .closing →
          exec (.summary l.val frame black white mean) s =
            .next { s with lookup := { s.lookup with status := .noReel } }) ∧
        ((s.lane l).reel.state = .ended → (∀ c, (s.lane l).tracker.current = some c → c < frame) →
          exec (.summary l.val frame black white mean) s =
            .next { s with lookup := { s.lookup with status := .outOfRange } }) ∧
        ((s.lane l).reel.state = .scanning ∨ (s.lane l).reel.state = .paused →
          (∀ c, (s.lane l).tracker.current = some c → c < frame) →
          exec (.summary l.val frame black white mean) s =
            .next { s with lookup := { s.lookup with status := .refusedAhead } }) ∧
        (∀ c, (s.lane l).reel.state = .scanning ∨ (s.lane l).reel.state = .paused ∨ (s.lane l).reel.state = .ended →
          (s.lane l).tracker.current = some c → frame ≤ c → (∀ i r, s.find l frame ≠ .found i r) →
          exec (.summary l.val frame black white mean) s =
            .next { s with lookup := { s.lookup with status := .outOfRange } })))

/-- SUMMARY taken, on a SCANNING, PAUSED or ENDED lane: the status becomes ACCEPTED. With a candidate queued at or before its frame it is added to the one with the greatest such frame, while that holds fewer than 64. Else, where it raises no DENSITY_STEP, it is added to the segment that holds its frame while that is MEASURING or REGRADING and holds fewer than 64; a REGRADING one that thereby reaches the window size enters COMPUTING with revision +1 and joins the Compute Queue, or the engine when that is IDLE. A summary that differs from the SETTLED open segment's luminance by more than the density threshold, past that segment's first frame and with no candidate queued, queues a DENSITY_STEP candidate that takes it. The count goes up by 1, each sum takes its value, and nothing else changes. -/
def Obligations.SummaryAdded : Prop :=
  ∀ (s : State) (l : Lane) (i : Slot) (r : Segment) (c frame : Nat) (black white mean : Rgb Nat),
    s.resetHeld = false → s.lookup.enabled = true → frame ≤ 1048575 → statisticsOk black = true →
    statisticsOk white = true → statisticsOk mean = true →
    (s.lane l).reel.state = .scanning ∨ (s.lane l).reel.state = .paused ∨ (s.lane l).reel.state = .ended →
    (s.lane l).tracker.current = some c → frame ≤ c → s.find l frame = .found i r →
    let add (a : Accum) : Accum :=
      { count := a.count + 1
        black := ⟨a.black.r + black.r, a.black.g + black.g, a.black.b + black.b⟩
        white := ⟨a.white.r + white.r, a.white.g + white.g, a.white.b + white.b⟩
        mean := ⟨a.mean.r + mean.r, a.mean.g + mean.g, a.mean.b + mean.b⟩ }
    let enter (e : Candidate) : Candidate := if e.acc.count < 64 then { e with acc := add e.acc } else e
    let accepts (t : State) : Prop :=
      exec (.summary l.val frame black white mean) s = .next { t with lookup := { s.lookup with status := .accepted } }
    let steps (q : Segment) : Prop := q.phase = .settled ∧ q.first < frame ∧ ∃ lum, q.luminance = some lum ∧
      (s.laneProfile l).densityThreshold < ((((mean.r + mean.g + mean.b) / 3 : Nat) : Int) - lum).natAbs
    (∀ h, (s.lane l).queue = [h] → h.frame ≤ frame → accepts (s.setQueue l [enter h])) ∧
    (∀ h g, (s.lane l).queue = [h, g] → h.frame < g.frame →
      (g.frame ≤ frame → accepts (s.setQueue l [h, enter g])) ∧
      (h.frame ≤ frame → frame < g.frame → accepts (s.setQueue l [enter h, g]))) ∧
    ((∀ e ∈ (s.lane l).queue, frame < e.frame) →
      (s.lane l).reel.state = .ended ∨ (s.lane l).queue ≠ [] ∨ (∀ j q, s.openSeg l = some (j, q) → ¬steps q) →
      (r.phase = .settled ∨ r.phase = .computing ∨ 64 ≤ r.acc.count → accepts s) ∧
      (r.acc.count < 64 → r.phase = .measuring ∨
          (r.phase = .regrading ∧ r.acc.count + 1 < (s.profile r.profile).windowSize) →
        accepts (s.putSeg i (some { r with acc := add r.acc }))) ∧
      (r.acc.count < 64 → r.phase = .regrading → (s.profile r.profile).windowSize ≤ r.acc.count + 1 →
        let t := s.putSeg i (some { r with acc := add r.acc, phase := .computing, revision := nextRevision r.revision })
        (s.engine ≠ none → accepts { t with computeQueue := s.computeQueue ++ [i] }) ∧
        (s.engine = none → s.computeQueue = [] → accepts { t with engine := some i }))) ∧
    (∀ j q, (s.lane l).reel.state ≠ .ended → (s.lane l).queue = [] → s.openSeg l = some (j, q) → steps q →
      accepts (s.setQueue l
        [{ frame := frame
           position := q.anchorPosition + roundDiv (((frame : Int) - q.anchorFrame) * q.pitch) 10
           kind := .densityStep
           state := .evaluating
           span := min 65535 (c - frame)
           acc := add Accum.zero
           evidence := { sensor := false, pitch := false, density := true, drift := false } }]))

/-! ### Gate words -/

/-- R43: consistency, and the thread test. A PERF taken in THREADING with a strength at or above the minimum is applied to the relock progress as the table gives: it is held, it restarts the test, or it completes it, and then the lane locks or the table is full. A perforation at or before the last one held is never consistent. -/
def Obligations.ThreadTest : Prop :=
  (∀ (p t : Nat) (earlier later : Int),
    consistent p t earlier later = true ↔ (10 * (later - earlier) - (p : Int)).natAbs * 1000 ≤ p * t) ∧
  (∀ (p t : Nat) (earlier later : Int), 0 < p → t < 1000 → later ≤ earlier → consistent p t earlier later = false) ∧
  (∀ (s : State) (l : Lane) (P strength : Nat), s.resetHeld = false →
    (s.lane l).reel.state = .scanning → (s.lane l).tracker.state = .threading → P ≤ 2147483647 →
    (s.laneProfile l).minStrength ≤ strength % 16 →
    let near (a : Int) : Bool := consistent (s.laneProfile l).nominalPitch (s.laneProfile l).pitchTolerance a P
    let holds (held : List Int) : State := s.onLane l fun d => { d with tracker := { d.tracker with relock := held } }
    ((s.lane l).tracker.relock = [] → exec (.perf l P strength) s = .next (holds [(P : Int)])) ∧
    (∀ a, (s.lane l).tracker.relock = [a] →
      (near a = true → exec (.perf l P strength) s = .next (holds [a, (P : Int)])) ∧
      (near a = false → exec (.perf l P strength) s = .next (holds [(P : Int)]))) ∧
    (∀ a b, (s.lane l).tracker.relock = [a, b] →
      (near b = false → exec (.perf l P strength) s = .next (holds [(P : Int)])) ∧
      (near b = true → exec (.perf l P strength) s = .next (s.firstLock l a P))))

/-- R44, R45: the first lock takes the head of the Free List for the START segment, anchored at the first perforation, and the tracker is LOCKED at frame 2; with no free slot the test is cleared and TABLE_FULL raised. -/
def Obligations.FirstLock : Prop :=
  ∀ (s : State) (l : Lane) (d : ReelLoad) (a b : Int) (P strength : Nat), s.resetHeld = false →
    (s.lane l).reel.state = .scanning → (s.lane l).tracker.state = .threading → P ≤ 2147483647 →
    (s.laneProfile l).minStrength ≤ strength % 16 → (s.lane l).reel.load = some d → s.chain l = [] →
    (s.lane l).tracker.relock = [a, b] →
    consistent (s.laneProfile l).nominalPitch (s.laneProfile l).pitchTolerance b P = true →
    let prof := s.profile d.profile
    (∀ i rest, s.freeList = i :: rest →
      ∃ t, exec (.perf l P strength) s = .next t ∧ t.freeList = rest ∧ t.chain l = [i] ∧
        t.seg i = some
          { lane := l, life := .live, revision := 1, first := 0, last := none, origin := .start, phase := .measuring,
            anchorFrame := 0, anchorPosition := a, pitch := prof.nominalPitch, perforations := 3, coasts := 0,
            travelOffset := prof.travelOffset, lateralOffset := prof.lateralOffset, lift := ⟨0, 0, 0⟩,
            gain := ⟨1024, 1024, 1024⟩, fade := prof.fade, lamp := prof.defaultLamp,
            cadence := if d.cadence = 0 then prof.cadence else d.cadence, source := .profile, luminance := none,
            acc := Accum.zero, owner := .auto, takePending := false, profile := d.profile } ∧
        (t.lane l).tracker =
          { (s.lane l).tracker with
            state := .locked
            current := some 2
            lastPosition := some (P : Int)
            coastRun := 0
            relock := []
            deadline := some ((P : Int) + roundDiv (prof.nominalPitch * (100 + prof.captureWindow) : Nat) 1000) } ∧
        (t.lane l).measure = some { frame := 2, position := P } ∧ (t.lane l).duty = prof.defaultLamp ∧
        (t.lane l).notices[0] = { raised := true, latest := some i } ∧ (∀ j, j ≠ i → t.seg j = s.seg j) ∧
        (∀ e ∈ t.lookup.deferred, e.lane = l → e.reason = .ahead → 2 < e.frame)) ∧
    (s.freeList = [] →
      exec (.perf l P strength) s = .next (s.onLane l fun x =>
        { x with tracker := { x.tracker with relock := [] }, notices := x.notices.set 7 { raised := true, latest := none } }))

/-- A PERF in LOCKED or COASTING (R47): within the capture half-width of the expected position it is taken as the next frame, which sets the tracker, the measure point, the deadline from the pitch then in force and the lamp of the segment then open; past the last frame of the range the lane ends (R58); outside the window it is ignored. A PERF in LOST or RELOCKING (R53-R56): up to half a step past the last frame taken it is ignored; else it is held, restarts the relock test or completes it. Then the frames are numbered from the distance travelled, past the range the lane ends, and otherwise the tracker is LOCKED two frames on, with LANE_RELOCKED after a loss; where frames are missing, the queued candidates give way, a GAP segment is opened at the first of them seen and the old one is closed before it. What a frame taken does to the open segment and the Candidate Queue is FrameTaken, and what the watches do after an accepted one is Watched: the perforation count, settle or running estimate; a split, NO_SPACE or dismissal; the runs, and the candidates they raise. (That one frame raises a revision once, and that a GAP relock re-checks once, at its end, are the model's choices: log entries 8 and 9.) -/
def Obligations.PerforationAcceptance : Prop :=
  ∀ (s : State) (l : Lane) (i : Slot) (r : Segment) (c P strength : Nat) (x : Int), s.resetHeld = false →
    (s.lane l).reel.state = .scanning → P ≤ 2147483647 →
    (s.laneProfile l).minStrength ≤ strength % 16 → s.openSeg l = some (i, r) →
    (s.lane l).tracker.current = some c → (s.lane l).tracker.lastPosition = some x →
    let W := (s.laneProfile l).captureWindow
    let expected := x + roundDiv r.pitch 10
    let halfWidth := roundDiv (r.pitch * W : Nat) 1000
    let near (a : Int) : Bool := consistent r.pitch (s.laneProfile l).pitchTolerance a P
    let holds (held : List Int) : State := s.onLane l fun d => { d with tracker := { d.tracker with relock := held } }
    ((s.lane l).tracker.state = .locked ∨ (s.lane l).tracker.state = .coasting →
      (halfWidth.natAbs < ((P : Int) - expected).natAbs → exec (.perf l P strength) s = .next s) ∧
      (((P : Int) - expected).natAbs ≤ halfWidth.natAbs → c < 1048575 →
        ∃ t, exec (.perf l P strength) s = .next t ∧
          (t.lane l).tracker.state = .locked ∧ (t.lane l).tracker.current = some (c + 1) ∧
          (t.lane l).tracker.lastPosition = some (P : Int) ∧ (t.lane l).tracker.coastRun = 0 ∧
          (t.lane l).tracker.deadline = some ((P : Int) + roundDiv (t.openPitch l * (100 + W) : Nat) 1000) ∧
          (t.lane l).measure = some { frame := c + 1, position := P } ∧
          (∀ j q, t.openSeg l = some (j, q) → (t.lane l).duty = q.lamp) ∧
          (t.lane l).reel.state = .scanning ∧
          (∀ e ∈ t.lookup.deferred, e.lane = l → e.reason = .ahead → c + 1 < e.frame) ∧
          (SlotLaws s → ∃ (u : State) (j : Slot) (q : Segment), FrameTaken l (c + 1) P true s u ∧
            u.openSeg l = some (j, q) ∧
            Watched l (c + 1) P (if (s.lane l).tracker.coastRun = 0 then some x else none) q
              (u.onTracker l fun d => { d with state := .locked, coastRun := 0 }) t)) ∧
      (((P : Int) - expected).natAbs ≤ halfWidth.natAbs → 1048575 ≤ c →
        ∃ t, exec (.perf l P strength) s = .next t ∧ EndedAtRange l s t)) ∧
    ((s.lane l).tracker.state = .lost ∨ (s.lane l).tracker.state = .relocking →
      ((P : Int) ≤ x + roundDiv r.pitch 20 → exec (.perf l P strength) s = .next s) ∧
      (x + roundDiv r.pitch 20 < P →
        ((s.lane l).tracker.relock = [] → exec (.perf l P strength) s = .next (holds [(P : Int)])) ∧
        (∀ a, (s.lane l).tracker.relock = [a] →
          exec (.perf l P strength) s = .next (holds (if near a then [a, (P : Int)] else [(P : Int)]))) ∧
        (∀ a b, (s.lane l).tracker.relock = [a, b] →
          (near b = false → exec (.perf l P strength) s = .next (holds [(P : Int)])) ∧
          (near b = true →
            let n := c + max 1 ((20 * (a - x) + r.pitch) / (2 * r.pitch)).toNat
            (1048575 < n + 2 → ∃ t, exec (.perf l P strength) s = .next t ∧ EndedAtRange l s t) ∧
            (n + 2 ≤ 1048575 → ∃ t, exec (.perf l P strength) s = .next t ∧
              (t.lane l).tracker =
                { state := .locked, current := some (n + 2), lastPosition := some (P : Int), coastRun := 0, drift := none
                  pitchRun := none, relock := []
                  deadline := some ((P : Int) + roundDiv (t.openPitch l * (100 + W) : Nat) 1000) } ∧
              (t.lane l).measure = some { frame := n + 2, position := P } ∧ (t.lane l).reel.state = .scanning ∧
              (∀ j q, t.openSeg l = some (j, q) → (t.lane l).duty = q.lamp) ∧
              (t.lane l).notices[2] =
                (if (s.lane l).tracker.state = .lost then { raised := true, latest := t.openSlot l }
                 else (s.lane l).notices[2]) ∧
              (n = c + 1 → (s.lane l).queue = [] → t.chain l = s.chain l ∧ t.freeList = s.freeList) ∧
              (let relocked (u : State) : State := u.onLane l fun d =>
                { d with
                  tracker :=
                    { d.tracker with state := .locked, coastRun := 0, drift := none, pitchRun := none, relock := [] }
                  notices := if (s.lane l).tracker.state = .lost then
                      d.notices.set 2 { raised := true, latest := u.openSlot l }
                    else d.notices }
               (n = c + 1 → SlotLaws s → ∃ u v w, FrameTaken l n a true s u ∧ FrameTaken l (n + 1) b true u v ∧
                 FrameTaken l (n + 2) P true v w ∧ t = relocked w) ∧
               (c + 1 < n → SlotLaws s → ∃ u, GapSplit l (some { frame := n + 2, position := P }) i r n a c x s u ∧
                 t = relocked u ∧
                 u.lookup = recheckedUnit u
                   (fun e => (decide (e.lane = l) && (decide (e.reason = .ahead) ||
                     (decide (e.reason = .candidate) && headReleased l s u))) || awaitsASettle s u e)
                   s.lookup)) ∧
              (∀ j rest, c + 1 < n → (s.lane l).queue = [] → s.freeList = j :: rest → s.seg j = none →
                (s.chain l).length < 64 →
                t.freeList = rest ∧ t.chain l = s.chain l ++ [j] ∧
                (t.lane l).notices[6] = { raised := true, latest := some j } ∧
                (∃ q, t.seg i = some q ∧ q.last = some (n - 1) ∧ q.phase ≠ .measuring) ∧
                ∃ q, t.seg j = some q ∧ q.lane = l ∧ q.life = .live ∧ q.first = n ∧ q.last = none ∧ q.origin = .gap ∧
                  q.anchorFrame = n ∧ q.anchorPosition = a ∧ q.perforations = 3 ∧ q.coasts = 0 ∧ q.revision = 1))))))

/-- In LOCKED and COASTING a SPLICE is a candidate ARMED at the frame after the current frame (R50); at the last frame of the range it arms none. With no candidate queued it is the head; past the tail's frame + 8 it is the second entry; and else it merges into the tail (R80, R82): evidence added, the kind replaced where that is no sensor kind, ARMED, and, where its frame lies past the tail's, the frame, the position and an empty accumulator, the tail's being handed back to the open segment (R81). A merge that moves the head's frame re-checks the lane's CANDIDATE entries (R97). Nothing else changes. In THREADING, LOST and RELOCKING a SPLICE and a TRAVEL are ignored after their checks (R45, R52, R57). (One increment of the revision where a hand-back ends a regrade: log entry 27, DEDUCED.) -/
def Obligations.SpliceArmsNextFrame : Prop :=
  (∀ (s : State) (l : Lane) (i : Slot) (r : Segment) (c Q kind : Nat), s.resetHeld = false →
    (s.lane l).reel.state = .scanning →
    (s.lane l).tracker.state = .locked ∨ (s.lane l).tracker.state = .coasting → Q ≤ 2147483647 → kind ≤ 1 →
    s.openSeg l = some (i, r) → (s.lane l).tracker.current = some c → r.first ≤ c →
    let armed : Candidate :=
      { frame := c + 1, position := Q, kind := if kind = 0 then .spliceTape else .spliceCement, state := .armed
        span := 0, acc := Accum.zero, evidence := { sensor := true, pitch := false, density := false, drift := false } }
    (1048575 ≤ c → exec (.splice l Q kind) s = .next s) ∧
    (c < 1048575 →
      ((s.lane l).queue = [] → exec (.splice l Q kind) s = .next (s.setQueue l [armed])) ∧
      (∀ h, (s.lane l).queue = [h] → h.frame + 8 < c + 1 →
        exec (.splice l Q kind) s = .next (s.setQueue l [h, armed])) ∧
      (∀ front tail, (s.lane l).queue = front ++ [tail] → c + 1 ≤ tail.frame + 8 → SlotLaws s →
        let merged : Candidate :=
          { tail with
            evidence := { tail.evidence with sensor := true }
            kind := if tail.kind = .spliceTape ∨ tail.kind = .spliceCement then tail.kind else armed.kind
            state := .armed }
        let q := if tail.frame < c + 1 then takingBack (s.profile r.profile).windowSize r tail.acc else r
        ∃ t, exec (.splice l Q kind) s = .next t ∧
          t.lane l = { s.lane l with queue := front ++ [
            if tail.frame < c + 1 then { merged with frame := c + 1, position := Q, span := 0, acc := Accum.zero }
            else merged] } ∧
          RecordsAre l s.freeList (s.chain l) (fun k => if k = i then some (revisedFrom r q) else s.seg k) []
            (handBackJoins i r q) s t ∧
          t.lookup = recheckedUnit t
            (fun e => decide (e.lane = l) && decide (e.reason = .candidate) && decide (front = []) &&
              decide (tail.frame < c + 1))
            s.lookup ∧
          SameBeyondLane l s t))) ∧
  (∀ (s : State) (l : Lane) (Q kind : Nat), s.resetHeld = false → (s.lane l).reel.state = .scanning →
    (s.lane l).tracker.state ∈ [TrackerState.threading, .lost, .relocking] → Q ≤ 2147483647 → kind ≤ 1 →
    exec (.splice l Q kind) s = .next s ∧ exec (.travel l Q) s = .next s)

/-- R48, R49, R58: a TRAVEL before the coast deadline, or before the last accepted position, has no effect. One at or past the deadline takes the next frame at the expected position, unless that frame or that position lies past the range: then the lane ends. A frame that brings the coast run to the coast limit takes the lane to LOST with LANE_LOST; after any other the lane is COASTING with the deadline reloaded and the watches' runs kept, and the same TRAVEL goes on from there. What the frame does to the open segment and the Candidate Queue is FrameTaken, as for an accepted one but for the measure point and the coast count. (Where a synthesised frame makes a split, its coast is counted in the new segment: log entry 7, DEDUCED. One increment of the revision: log entry 8.) -/
def Obligations.TravelPastDeadline : Prop :=
  ∀ (s : State) (l : Lane) (i : Slot) (r : Segment) (c T : Nat) (x d : Int), s.resetHeld = false →
    (s.lane l).reel.state = .scanning →
    (s.lane l).tracker.state = .locked ∨ (s.lane l).tracker.state = .coasting → T ≤ 2147483647 →
    s.openSeg l = some (i, r) → (s.lane l).tracker.current = some c → (s.lane l).tracker.lastPosition = some x →
    (s.lane l).tracker.deadline = some d →
    let limit := (s.laneProfile l).coastLimit
    let expected := x + roundDiv r.pitch 10
    ((T : Int) < d ∨ (T : Int) < x → exec (.travel l T) s = .next s) ∧
    (d ≤ T → x ≤ T → c < 1048575 → expected ≤ 2147483647 →
      ((s.lane l).tracker.coastRun + 1 = limit →
        ∃ t, exec (.travel l T) s = .next t ∧
          (t.lane l).tracker.state = .lost ∧ (t.lane l).tracker.current = some (c + 1) ∧
          (t.lane l).tracker.lastPosition = some expected ∧
          (t.lane l).tracker.coastRun = limit ∧ (t.lane l).tracker.drift = none ∧
          (t.lane l).tracker.pitchRun = none ∧ (t.lane l).tracker.relock = [] ∧
          (t.lane l).measure = (s.lane l).measure ∧
          (t.lane l).notices[1] = { raised := true, latest := t.openSlot l } ∧
          (t.lane l).reel.state = .scanning ∧
          (SlotLaws s → ∃ u, FrameTaken l (c + 1) expected false s u ∧
            t = u.onLane l fun y =>
              { y with
                tracker :=
                  { y.tracker with state := .lost, coastRun := limit, drift := none, pitchRun := none, relock := [] }
                notices := y.notices.set 1 { raised := true, latest := u.openSlot l } })) ∧
      ((s.lane l).tracker.coastRun + 1 < limit →
        ∃ t : State, exec (.travel l T) s = exec (.travel l T) t ∧
          (t.lane l).tracker =
            { (s.lane l).tracker with
              state := .coasting
              current := some (c + 1)
              lastPosition := some expected
              coastRun := (s.lane l).tracker.coastRun + 1
              deadline := some (expected + roundDiv (t.openPitch l * (100 + (s.laneProfile l).captureWindow) : Nat) 1000) } ∧
          (t.lane l).measure = (s.lane l).measure ∧ (t.lane l).reel.state = .scanning ∧
          (∀ j q, t.openSeg l = some (j, q) → (t.lane l).duty = q.lamp) ∧
          (∀ e ∈ t.lookup.deferred, e.lane = l → e.reason = .ahead → c + 1 < e.frame) ∧
          (SlotLaws s → SameBeyondLane l s t) ∧
          (SlotLaws s → ∃ u, FrameTaken l (c + 1) expected false s u ∧
            t = u.onTracker l fun y => { y with state := .coasting, coastRun := (s.lane l).tracker.coastRun + 1 }) ∧
          ((s.lane l).queue = [] → t.chain l = s.chain l ∧
            ∃ q, t.seg i = some q ∧ q.last = none ∧ q.coasts = min 65535 (r.coasts + 1) ∧
              q.perforations = min 65535 (r.perforations + 1)) ∧
          (∀ e, (t.lane l).tracker.deadline = some e → (T : Int) < e → exec (.travel l T) s = .next t))) ∧
    (d ≤ T → x ≤ T → 1 ≤ limit → 1048575 ≤ c ∨ 2147483647 < expected →
      ∃ t, exec (.travel l T) s = .next t ∧ EndedAtRange l s t)

/-- R59: a RUNOUT that is taken ends the lane: reel and tracker ENDED with the current frame and position kept, the candidates' accumulators handed back and the open segment closed at the current frame, settling if it was MEASURING, with the settle's notices or its place in the Compute Queue; the queue empty, the lamp dark, and RUNOUT raised with the closed segment's slot. The lane's AHEAD entries are answered OUT_OF_RANGE, its CANDIDATE entries and those that await the settled segment are re-checked, all in acceptance order, and the others are kept (R144). (One increment of the revision: log entry 8, the model's choice.) -/
def Obligations.RunoutEndsLane : Prop :=
  ∀ (s : State) (l : Lane) (P : Nat), s.resetHeld = false → (s.lane l).reel.state = .scanning →
    (s.lane l).tracker.state ∈ [TrackerState.threading, .locked, .coasting, .lost, .relocking] → P ≤ 2147483647 →
    ∃ t, exec (.runout l P) s = .next t ∧ LaneEnded [] l s t ∧
      (∀ e ∈ t.lookup.deferred, e.lane = l → e.reason ≠ .ahead)

/-- R42: outside SCANNING, and with the tracker IDLE, PAUSED or ENDED, every gate word is ignored; else a word that is cut short or of no known kind, a SPLICE of no known kind and a position past the range raise TRANSPORT_FAULT with no latest-slot and do nothing else, and a PERF below the minimum strength does nothing. -/
def Obligations.GateWordChecks : Prop :=
  ∀ (s : State) (l : Lane) (P detail : Nat) (bytes : List Byte),
    let taken := (s.lane l).reel.state = .scanning ∧
      (s.lane l).tracker.state ∈ [TrackerState.threading, .locked, .coasting, .lost, .relocking]
    let fault := s.onLane l fun d => { d with notices := d.notices.set 5 { raised := true, latest := none } }
    (¬taken → ∀ c ∈ [Instr.perf l P detail, .splice l P detail, .travel l P, .runout l P, .malformedGateWord l bytes],
      exec c s = .next s) ∧
    (taken → s.resetHeld = false →
      (gateWordOf bytes = .malformed → exec (.malformedGateWord l bytes) s = .next fault) ∧
      (2 ≤ detail → exec (.splice l P detail) s = .next fault) ∧
      (2147483647 < P → ∀ c ∈ [Instr.perf l P detail, .splice l P detail, .travel l P, .runout l P],
        exec c s = .next fault) ∧
      (P ≤ 2147483647 → detail % 16 < (s.laneProfile l).minStrength → exec (.perf l P detail) s = .next s))

/-- The frame of every gate word: profiles, policies, part-wide flags, links, lease, timers, lookup settings, the other lanes and their segments are as they were. -/
def Obligations.GateWordFrame : Prop :=
  ∀ (s t : State) (l : Lane) (P detail : Nat) (bytes : List Byte), SlotLaws s →
    ∀ c ∈ [Instr.perf l P detail, .splice l P detail, .travel l P, .runout l P, .malformedGateWord l bytes],
      exec c s = .next t → SameBeyondLane l s t

/-! ### The engine and the deadlines -/

/-- GRADE_COMPLETION: gains, lifts and settled luminance as R105 gives, or the default grade when a spread is below 64; the phase is SETTLED, a pending take is granted, the revision goes up by 1, the notices are raised, and the engine begins the head of the Compute Queue. The entries that await the segment are re-checked (R139, R145): one whose frame it holds is answered SETTLED from it, unless it meets another reason; one that waits again keeps its remaining ticks. Then a RETIRING segment that the console does not own and no entry awaits is freed (R114, R156), and any other is kept. No other segment changes. The first clause says what any re-check does to the lookup unit. -/
def Obligations.GradeCompletion : Prop :=
  (∀ (u : State) (concerned : Deferral → Bool),
    u.recheck concerned = { u with lookup := recheckedUnit u concerned u.lookup }) ∧
  (∀ (s : State) (i : Slot) (r : Segment), s.resetHeld = false → s.engine = some i → s.seg i = some r →
    let p := s.profile r.profile
    let k := r.acc.count
    let spread (black white : Nat) : Int := ((white / k : Nat) : Int) - ((black / k : Nat) : Int)
    let gain (black white : Nat) : Nat :=
      (clampTo 256 4096 (roundDiv (1024 * ((p.targetWhite : Int) - p.targetBlack)) (spread black white).toNat)).toNat
    let lift (black white : Nat) : Int :=
      clampTo (-2048) 2047 ((p.targetBlack : Int) - roundDiv (black / k * gain black white : Nat) 1024)
    let thin := spread r.acc.black.r r.acc.white.r < 64 ∨ spread r.acc.black.g r.acc.white.g < 64 ∨
      spread r.acc.black.b r.acc.white.b < 64
    let graded : Segment := { r with
      lift := if thin then ⟨0, 0, 0⟩ else
        ⟨lift r.acc.black.r r.acc.white.r, lift r.acc.black.g r.acc.white.g, lift r.acc.black.b r.acc.white.b⟩
      gain := if thin then ⟨1024, 1024, 1024⟩ else
        ⟨gain r.acc.black.r r.acc.white.r, gain r.acc.black.g r.acc.white.g, gain r.acc.black.b r.acc.white.b⟩
      fade := p.fade
      source := if thin then .defaulted else .computed
      luminance := some ((r.acc.mean.r + r.acc.mean.g + r.acc.mean.b) / (3 * k))
      phase := .settled
      owner := if r.takePending then .console else r.owner
      takePending := false
      revision := nextRevision r.revision }
    ∃ t, exec .gradeCompletion s = .next t ∧
      (∀ j, j ≠ i → t.seg j = s.seg j) ∧
      (t.lane r.lane).notices[9] = { raised := true, latest := some i } ∧
      (thin → (t.lane r.lane).notices[8] = { raised := true, latest := some i }) ∧
      (r.takePending = true → t.partNotices[1] = { raised := true, latest := some i }) ∧
      (r.takePending = false → t.partNotices = s.partNotices) ∧
      t.reservations = s.reservations ∧ t.profiles = s.profiles ∧
      t.lookup = recheckedUnit (s.putSeg i (some graded)) (fun e => decide (e.reason = .segment i)) s.lookup ∧
      (∀ e ∈ s.lookup.deferred, e.reason = .segment i → s.find e.lane e.frame = .found i r →
        (s.lane e.lane).reel.state = .closing ∨
          (((s.lane e.lane).reel.state = .ended ∨ (((s.lane e.lane).reel.state = .scanning ∨
              (s.lane e.lane).reel.state = .paused) ∧ ∃ c, (s.lane e.lane).tracker.current = some c ∧ e.frame ≤ c)) ∧
            ∀ h rest, (s.lane e.lane).queue = h :: rest → e.frame < h.frame) →
        e ∉ t.lookup.deferred ∧
        { tag := e.tag, status := .settled, lane := e.lane, frame := e.frame
          slots := s.lookup.layout.map (FieldCode.value e.frame i graded) } ∈ t.lookup.answers) ∧
      (∀ d ∈ t.lookup.deferred, ∃ e ∈ s.lookup.deferred, d = { e with reason := d.reason }) ∧
      (r.life = .live →
        t.seg i = some graded ∧ t.engine = s.computeQueue.head? ∧ t.computeQueue = s.computeQueue.tail ∧
        (∀ l, t.lane l = { s.lane l with notices := (t.lane l).notices }) ∧ t.freeList = s.freeList) ∧
      (r.life = .retiring → SlotLaws s → EngineLaws s →
        t.engine = s.computeQueue.head? ∧ t.computeQueue = s.computeQueue.tail ∧
        (∀ l, l ≠ r.lane → t.lane l = s.lane l) ∧
        (graded.owner = .console ∨ (∃ e ∈ t.lookup.deferred, e.reason = .segment i) →
          t.seg i = some graded ∧ t.freeList = s.freeList ∧
          ∀ l, t.lane l = { s.lane l with notices := (t.lane l).notices }) ∧
        (graded.owner = .auto → (∀ e ∈ t.lookup.deferred, e.reason ≠ .segment i) → SlotFreed r.lane i s t)))

/-- DEFERRAL_TICK: the entries that it brings to 0 expire in it, one after the other in acceptance order, and the others have 1 subtracted from their remaining ticks (R141); with none at its last tick nothing else changes. DEFERRAL_EXPIRY is the expiry of the oldest entry at its last tick, and has no effect with none. An expiry (R142) answers the entry PROVISIONAL and raises PROVISIONAL_ISSUED with the slot it was built from: the segment that holds a frame not past the current one; the open segment for a frame past it; none, with every slot 0 and no latest slot, past it in a reel with no open segment; and in a CLOSING reel the awaited segment. An awaited RETIRING segment that nothing else holds is then freed (R156). That the row DEFERRAL_EXPIRY names the last tick of one entry, and that each expiry of a tick ends before the next, is read from R141, R142, R156 and the table's rows (log entry 12, DEDUCED). -/
def Obligations.DeferralTickAndExpiry : Prop :=
  ∀ s : State, s.resetHeld = false →
    (∃ u, ExpireInOrder (s.lookup.deferred.filter fun e => decide (e.remaining ≤ 1)) s u ∧
      u.lookup.deferred = (s.lookup.deferred.filter fun e => decide (2 ≤ e.remaining)) ∧
      exec .deferralTick s = .next { u with lookup := { u.lookup with
        deferred := u.lookup.deferred.map fun e => { e with remaining := e.remaining - 1 } } }) ∧
    ((∀ e ∈ s.lookup.deferred, 2 ≤ e.remaining) → exec .deferralExpiry s = .next s) ∧
    (∀ before e after, s.lookup.deferred = before ++ e :: after → (∀ d ∈ before, 2 ≤ d.remaining) → e.remaining ≤ 1 →
      ∃ t, exec .deferralExpiry s = .next t ∧ Expires e s t ∧ t.lookup.deferred = before ++ after)

/-! ### Laws that every step keeps -/

/-- Every step keeps the laws of the Free List and the chains. -/
def Obligations.SlotLawsKept : Prop :=
  ∀ s t : State, SlotLaws s → step s = .next t → SlotLaws t

/-- Every step keeps the laws of the Compute Queue and the engine. -/
def Obligations.EngineLawsKept : Prop :=
  ∀ s t : State, SlotLaws s → EngineLaws s → step s = .next t → EngineLaws t

/-- Every step keeps the laws of the lookup unit: never more than 12 entries or 16 reservations, and no entry with no tick left. -/
def Obligations.LookupLawsKept : Prop :=
  ∀ s t : State, LookupLaws s → step s = .next t → LookupLaws t

/-- Every step keeps the laws of the records, the Candidate Queues and the lease timer: no revision is ever 0, no accumulator holds more than 64, and a RUNNING timer's count is 1 to 255. -/
def Obligations.RecordLawsKept : Prop :=
  ∀ s t : State, RecordLaws s → step s = .next t → RecordLaws t

/-- The laws hold after power-on. -/
def Obligations.LawsHoldAtReset : Prop :=
  SlotLaws State.reset ∧ EngineLaws State.reset ∧ LookupLaws State.reset ∧ RecordLaws State.reset
end

