-- ==== Sys2Proof/Laws/Bytes.lean ====
section
/-! SUPPORT. What the byte layouts of 11.7 do: lengths, check sums, and fields that read back as written. -/

namespace Sys2Proof.Machine

@[simp] theorem laneOf_val (l : Lane) : laneOf l.val = some l := by simp [laneOf]

@[simp] theorem slotOf_val (i : Slot) : slotOf i.val = some i := by simp [slotOf]

@[simp] theorem profileOf_val (p : ProfileNo) : profileOf p.val = some p := by simp [profileOf]

theorem laneOf_none {n : Nat} (h : 4 ≤ n) : laneOf n = none := by simp [laneOf]; omega

theorem slotOf_none {n : Nat} (h : 160 ≤ n) : slotOf n = none := by simp [slotOf]; omega

theorem profileOf_none {n : Nat} (h : 16 ≤ n) : profileOf n = none := by simp [profileOf]; omega

/-- A gauge's code reads back. -/
@[simp] theorem gauge_ofCode_code (g : Gauge) : Gauge.ofCode g.code = some g := by cases g <;> rfl

/-- A gauge's code names that gauge alone. -/
theorem gauge_ofCode_eq {n : Nat} {g : Gauge} (h : Gauge.ofCode n = some g) : g.code = n := by
  match n with
  | 0 | 1 | 2 | 3 => simp [Gauge.ofCode] at h; subst h; rfl
  | k + 4 => simp [Gauge.ofCode] at h

/-! ### Sums and checks -/

theorem byteSum_append (a b : List Byte) : byteSum (a ++ b) = byteSum a + byteSum b := by
  induction a with
  | nil => simp [byteSum]
  | cons x rest ih => simp [byteSum, ih, BitVec.add_assoc]

/-- A frame with its check byte sums to 0. -/
theorem byteSum_withCheck (bytes : List Byte) : byteSum (withCheck bytes) = 0 := by
  have last : byteSum [-byteSum bytes] = -byteSum bytes := by simp [byteSum]
  rw [withCheck, byteSum_append, last]
  exact BitVec.add_right_neg _

/-- The sum of bytes modulo 256, as a sum of numbers. -/
theorem byteSum_toNat (bytes : List Byte) : (byteSum bytes).toNat = (bytes.map BitVec.toNat).sum % 256 := by
  induction bytes with
  | nil => rfl
  | cons b rest ih => simp [byteSum, ih, BitVec.toNat_add]

/-- A sum is 0 where the numbers add up to a multiple of 256. -/
theorem byteSum_eq_zero (bytes : List Byte) : byteSum bytes = 0 ↔ (bytes.map BitVec.toNat).sum % 256 = 0 := by
  rw [← byteSum_toNat, BitVec.toNat_eq]
  simp

@[simp] theorem withCheck_length (bytes : List Byte) : (withCheck bytes).length = bytes.length + 1 := by simp [withCheck]

/-! ### Fields -/

@[simp] theorem leBytes_length (k n : Nat) : (leBytes k n).length = k := by
  induction k generalizing n with
  | zero => rfl
  | succ k ih => simp [leBytes, ih]

/-- The bytes of a number spell it, modulo what they can hold. -/
theorem leValue_leBytes (k n : Nat) : leValue (leBytes k n) = n % 256 ^ k := by
  induction k generalizing n with
  | zero => simp [leBytes, leValue, Nat.mod_one]
  | succ k ih =>
    simp only [leBytes, leValue, ih, BitVec.toNat_ofNat]
    rw [Nat.pow_succ' (n := k), Nat.mod_mul]

/-- The bytes of a number, one by one. -/
theorem leBytes_eq (k n : Nat) : leBytes k n = (List.range k).map fun i => BitVec.ofNat 8 (n / 256 ^ i) := by
  induction k generalizing n with
  | zero => rfl
  | succ k ih =>
    rw [leBytes, ih, List.range_succ_eq_map]
    simp [Nat.pow_succ', Nat.div_div_eq_div_mul]

/-- A byte of a value taken modulo what its field can hold is that byte of the value, in two's complement. -/
theorem byte_of_residue (v : Int) {k i : Nat} (h : i < k) :
    BitVec.ofNat 8 ((v % (256 ^ k : Nat)).toNat / 256 ^ i) = BitVec.ofInt 8 (v / 256 ^ i) := by
  obtain ⟨d, rfl⟩ : ∃ d, k = i + 1 + d := ⟨k - (i + 1), by omega⟩
  rw [Int.natCast_pow]
  show BitVec.ofNat 8 ((v % (256 : Int) ^ (i + 1 + d)).toNat / 256 ^ i) = _
  have hp : (256 : Int) ^ i ≠ 0 := Int.pow_ne_zero (by decide)
  have hk : (256 : Int) ^ (i + 1 + d) ≠ 0 := Int.pow_ne_zero (by decide)
  have hnn : 0 ≤ v % (256 : Int) ^ (i + 1 + d) := Int.emod_nonneg _ hk
  have whole : v = v % (256 : Int) ^ (i + 1 + d) + 256 ^ i * (256 * (256 ^ d * (v / 256 ^ (i + 1 + d)))) := by
    have := Int.mul_ediv_add_emod v ((256 : Int) ^ (i + 1 + d))
    rw [Int.pow_add, Int.pow_succ] at this ⊢
    rw [← Int.mul_assoc, ← Int.mul_assoc]
    omega
  have split : v / 256 ^ i = v % (256 : Int) ^ (i + 1 + d) / 256 ^ i + 256 * (256 ^ d * (v / 256 ^ (i + 1 + d))) := by
    have := congrArg (· / (256 : Int) ^ i) whole
    simp only [Int.add_mul_ediv_left _ _ hp] at this
    exact this
  rw [← BitVec.ofInt_natCast]
  apply BitVec.eq_of_toInt_eq
  rw [BitVec.toInt_ofInt, BitVec.toInt_ofInt, split, Int.natCast_ediv, Int.toNat_of_nonneg hnn, Int.natCast_pow]
  simp [Int.bmod]

/-- A field on the wire: byte `i` of its value, in two's complement, in the link's byte order. -/
theorem wireField_bytes_eq (order : ByteOrder) (f : WireField) :
    f.bytes order =
      (match order with
       | .lsFirst => List.range f.size
       | .msFirst => (List.range f.size).reverse).map fun i => BitVec.ofInt 8 (f.value / 256 ^ i) := by
  have h : leBytes f.size (f.value % (256 ^ f.size : Nat)).toNat =
      (List.range f.size).map fun i => BitVec.ofInt 8 (f.value / 256 ^ i) := by
    rw [leBytes_eq]
    apply List.map_congr_left
    intro i hi
    exact byte_of_residue _ (List.mem_range.mp hi)
  cases order
  · rw [WireField.bytes, h, List.map_reverse]
  · exact h
@[simp] theorem wireField_bytes_length (order : ByteOrder) (f : WireField) : (f.bytes order).length = f.size := by
  cases order <;> simp [WireField.bytes]

/-- A field reads back in the order it was written in, modulo what it can hold. -/
theorem fieldValue_bytes (order : ByteOrder) (f : WireField) :
    fieldValue order (f.bytes order) = (f.value % (256 ^ f.size : Nat)).toNat := by
  have h : (f.value % (256 ^ f.size : Nat)).toNat < 256 ^ f.size := by
    have pos : (0 : Int) < (256 ^ f.size : Nat) := by exact_mod_cast Nat.pow_pos (by decide)
    have lt := Int.emod_lt_of_pos f.value pos
    have ge := Int.emod_nonneg f.value (Int.ne_of_gt pos)
    omega
  cases order <;> simp only [fieldValue, WireField.bytes, List.reverse_reverse, leValue_leBytes, Nat.mod_eq_of_lt h]

/-- A number that fits its field reads back as it is. -/
theorem fieldValue_wire (order : ByteOrder) (k n : Nat) (h : n < 256 ^ k) :
    fieldValue order ((wire k n).bytes order) = n := by
  rw [fieldValue_bytes]
  simp only [wire]
  rw [← Int.natCast_emod, Int.toNat_natCast, Nat.mod_eq_of_lt h]

/-- The fields of a payload read back one by one. -/
theorem fieldValues_cons (order : ByteOrder) (k : Nat) (sizes : List Nat) (a b : List Byte) (h : a.length = k) :
    fieldValues order (k :: sizes) (a ++ b) = fieldValue order a :: fieldValues order sizes b := by
  simp [fieldValues, ← h]

end Sys2Proof.Machine
end

