-- ==== Sys2Proof/Laws/State.lean ====
section
/-! SUPPORT. What each named write of the state leaves in each field: one lemma per field per write, so that no proof unfolds a record update. -/

namespace Sys2Proof.Machine

/-! ### Vectors -/

@[simp] theorem update_same {α : Type} {n : Nat} (v : Vector α n) (i : Fin n) (f : α → α) :
    (update v i f)[i.val] = f v[i.val] := by simp [update]

theorem update_other {α : Type} {n : Nat} (v : Vector α n) (i j : Fin n) (f : α → α) (h : j ≠ i) :
    (update v i f)[j.val] = v[j.val] := by
  have : ¬ i.val = j.val := fun e => h (Fin.ext e.symm)
  simp [update, this]

/-- A vector is its list of values: two that agree at every index are equal. -/
theorem vector_ext {α : Type} {n : Nat} {v w : Vector α n} (h : ∀ i : Fin n, v[i.val] = w[i.val]) : v = w :=
  Vector.ext fun i hi => h ⟨i, hi⟩

/-! ### A write of one lane -/

section
variable (s : State) (l : Lane) (f : LaneState → LaneState)

@[simp] theorem onLane_profiles : (s.onLane l f).profiles = s.profiles := rfl
@[simp] theorem onLane_segments : (s.onLane l f).segments = s.segments := rfl
@[simp] theorem onLane_freeList : (s.onLane l f).freeList = s.freeList := rfl
@[simp] theorem onLane_computeQueue : (s.onLane l f).computeQueue = s.computeQueue := rfl
@[simp] theorem onLane_engine : (s.onLane l f).engine = s.engine := rfl
@[simp] theorem onLane_lease : (s.onLane l f).lease = s.lease := rfl
@[simp] theorem onLane_leaseLength : (s.onLane l f).leaseLength = s.leaseLength := rfl
@[simp] theorem onLane_lookup : (s.onLane l f).lookup = s.lookup := rfl
@[simp] theorem onLane_tick : (s.onLane l f).tick = s.tick := rfl
@[simp] theorem onLane_limit : (s.onLane l f).limit = s.limit := rfl
@[simp] theorem onLane_partNotices : (s.onLane l f).partNotices = s.partNotices := rfl
@[simp] theorem onLane_partPolicies : (s.onLane l f).partPolicies = s.partPolicies := rfl
@[simp] theorem onLane_control : (s.onLane l f).control = s.control := rfl
@[simp] theorem onLane_grading : (s.onLane l f).grading = s.grading := rfl
@[simp] theorem onLane_resetHeld : (s.onLane l f).resetHeld = s.resetHeld := rfl
@[simp] theorem onLane_pending : (s.onLane l f).pending = s.pending := rfl
@[simp] theorem onLane_seg (j : Slot) : (s.onLane l f).seg j = s.seg j := rfl
@[simp] theorem onLane_profile (p : ProfileNo) : (s.onLane l f).profile p = s.profile p := rfl

end

@[simp] theorem onLane_lane (s : State) (l : Lane) (f : LaneState → LaneState) :
    (s.onLane l f).lane l = f (s.lane l) := update_same _ _ _

theorem onLane_lane_other (s : State) (l : Lane) (f : LaneState → LaneState) (m : Lane) (h : m ≠ l) :
    (s.onLane l f).lane m = s.lane m := update_other _ _ _ _ h

/-! ### A write of a reel record -/

section
variable (s : State) (l : Lane) (f : Reel → Reel)

@[simp] theorem onReel_profiles : (s.onReel l f).profiles = s.profiles := rfl
@[simp] theorem onReel_segments : (s.onReel l f).segments = s.segments := rfl
@[simp] theorem onReel_freeList : (s.onReel l f).freeList = s.freeList := rfl
@[simp] theorem onReel_computeQueue : (s.onReel l f).computeQueue = s.computeQueue := rfl
@[simp] theorem onReel_engine : (s.onReel l f).engine = s.engine := rfl
@[simp] theorem onReel_lease : (s.onReel l f).lease = s.lease := rfl
@[simp] theorem onReel_leaseLength : (s.onReel l f).leaseLength = s.leaseLength := rfl
@[simp] theorem onReel_lookup : (s.onReel l f).lookup = s.lookup := rfl
@[simp] theorem onReel_tick : (s.onReel l f).tick = s.tick := rfl
@[simp] theorem onReel_limit : (s.onReel l f).limit = s.limit := rfl
@[simp] theorem onReel_partNotices : (s.onReel l f).partNotices = s.partNotices := rfl
@[simp] theorem onReel_partPolicies : (s.onReel l f).partPolicies = s.partPolicies := rfl
@[simp] theorem onReel_control : (s.onReel l f).control = s.control := rfl
@[simp] theorem onReel_grading : (s.onReel l f).grading = s.grading := rfl
@[simp] theorem onReel_resetHeld : (s.onReel l f).resetHeld = s.resetHeld := rfl
@[simp] theorem onReel_pending : (s.onReel l f).pending = s.pending := rfl
@[simp] theorem onReel_seg (j : Slot) : (s.onReel l f).seg j = s.seg j := rfl
@[simp] theorem onReel_profile (p : ProfileNo) : (s.onReel l f).profile p = s.profile p := rfl

end

@[simp] theorem onReel_lane (s : State) (l : Lane) (f : Reel → Reel) :
    (s.onReel l f).lane l = { s.lane l with reel := f (s.lane l).reel } := update_same _ _ _

theorem onReel_lane_other (s : State) (l : Lane) (f : Reel → Reel) (m : Lane) (h : m ≠ l) :
    (s.onReel l f).lane m = s.lane m := update_other _ _ _ _ h

/-! ### A write of a tracker -/

section
variable (s : State) (l : Lane) (f : Tracker → Tracker)

@[simp] theorem onTracker_profiles : (s.onTracker l f).profiles = s.profiles := rfl
@[simp] theorem onTracker_segments : (s.onTracker l f).segments = s.segments := rfl
@[simp] theorem onTracker_freeList : (s.onTracker l f).freeList = s.freeList := rfl
@[simp] theorem onTracker_computeQueue : (s.onTracker l f).computeQueue = s.computeQueue := rfl
@[simp] theorem onTracker_engine : (s.onTracker l f).engine = s.engine := rfl
@[simp] theorem onTracker_lease : (s.onTracker l f).lease = s.lease := rfl
@[simp] theorem onTracker_leaseLength : (s.onTracker l f).leaseLength = s.leaseLength := rfl
@[simp] theorem onTracker_lookup : (s.onTracker l f).lookup = s.lookup := rfl
@[simp] theorem onTracker_tick : (s.onTracker l f).tick = s.tick := rfl
@[simp] theorem onTracker_limit : (s.onTracker l f).limit = s.limit := rfl
@[simp] theorem onTracker_partNotices : (s.onTracker l f).partNotices = s.partNotices := rfl
@[simp] theorem onTracker_partPolicies : (s.onTracker l f).partPolicies = s.partPolicies := rfl
@[simp] theorem onTracker_control : (s.onTracker l f).control = s.control := rfl
@[simp] theorem onTracker_grading : (s.onTracker l f).grading = s.grading := rfl
@[simp] theorem onTracker_resetHeld : (s.onTracker l f).resetHeld = s.resetHeld := rfl
@[simp] theorem onTracker_pending : (s.onTracker l f).pending = s.pending := rfl
@[simp] theorem onTracker_seg (j : Slot) : (s.onTracker l f).seg j = s.seg j := rfl
@[simp] theorem onTracker_profile (p : ProfileNo) : (s.onTracker l f).profile p = s.profile p := rfl

end

@[simp] theorem onTracker_lane (s : State) (l : Lane) (f : Tracker → Tracker) :
    (s.onTracker l f).lane l = { s.lane l with tracker := f (s.lane l).tracker } := update_same _ _ _

theorem onTracker_lane_other (s : State) (l : Lane) (f : Tracker → Tracker) (m : Lane) (h : m ≠ l) :
    (s.onTracker l f).lane m = s.lane m := update_other _ _ _ _ h

@[simp] theorem onTracker_chain (s : State) (l : Lane) (f : Tracker → Tracker) (m : Lane) :
    (s.onTracker l f).chain m = s.chain m := by
  by_cases h : m = l
  · subst h; simp only [State.chain, onTracker_lane]
  · simp only [State.chain, onTracker_lane_other s l f m h]

/-! ### A write of a Candidate Queue -/

section
variable (s : State) (l : Lane) (q : List Candidate)

@[simp] theorem setQueue_profiles : (s.setQueue l q).profiles = s.profiles := rfl
@[simp] theorem setQueue_segments : (s.setQueue l q).segments = s.segments := rfl
@[simp] theorem setQueue_freeList : (s.setQueue l q).freeList = s.freeList := rfl
@[simp] theorem setQueue_computeQueue : (s.setQueue l q).computeQueue = s.computeQueue := rfl
@[simp] theorem setQueue_engine : (s.setQueue l q).engine = s.engine := rfl
@[simp] theorem setQueue_lease : (s.setQueue l q).lease = s.lease := rfl
@[simp] theorem setQueue_leaseLength : (s.setQueue l q).leaseLength = s.leaseLength := rfl
@[simp] theorem setQueue_lookup : (s.setQueue l q).lookup = s.lookup := rfl
@[simp] theorem setQueue_tick : (s.setQueue l q).tick = s.tick := rfl
@[simp] theorem setQueue_limit : (s.setQueue l q).limit = s.limit := rfl
@[simp] theorem setQueue_partNotices : (s.setQueue l q).partNotices = s.partNotices := rfl
@[simp] theorem setQueue_partPolicies : (s.setQueue l q).partPolicies = s.partPolicies := rfl
@[simp] theorem setQueue_control : (s.setQueue l q).control = s.control := rfl
@[simp] theorem setQueue_grading : (s.setQueue l q).grading = s.grading := rfl
@[simp] theorem setQueue_resetHeld : (s.setQueue l q).resetHeld = s.resetHeld := rfl
@[simp] theorem setQueue_pending : (s.setQueue l q).pending = s.pending := rfl
@[simp] theorem setQueue_seg (j : Slot) : (s.setQueue l q).seg j = s.seg j := rfl
@[simp] theorem setQueue_profile (p : ProfileNo) : (s.setQueue l q).profile p = s.profile p := rfl

end

@[simp] theorem setQueue_lane (s : State) (l : Lane) (q : List Candidate) :
    (s.setQueue l q).lane l = { s.lane l with queue := q } := update_same _ _ _

theorem setQueue_lane_other (s : State) (l : Lane) (q : List Candidate) (m : Lane) (h : m ≠ l) :
    (s.setQueue l q).lane m = s.lane m := update_other _ _ _ _ h

@[simp] theorem setQueue_chain (s : State) (l : Lane) (q : List Candidate) (m : Lane) :
    (s.setQueue l q).chain m = s.chain m := by
  by_cases h : m = l
  · subst h; simp only [State.chain, setQueue_lane]
  · simp only [State.chain, setQueue_lane_other s l q m h]

/-! ### A write of a measure point -/

section
variable (s : State) (l : Lane) (m' : Option MeasurePoint)

@[simp] theorem setMeasure_profiles : (s.setMeasure l m').profiles = s.profiles := rfl
@[simp] theorem setMeasure_segments : (s.setMeasure l m').segments = s.segments := rfl
@[simp] theorem setMeasure_freeList : (s.setMeasure l m').freeList = s.freeList := rfl
@[simp] theorem setMeasure_computeQueue : (s.setMeasure l m').computeQueue = s.computeQueue := rfl
@[simp] theorem setMeasure_engine : (s.setMeasure l m').engine = s.engine := rfl
@[simp] theorem setMeasure_lease : (s.setMeasure l m').lease = s.lease := rfl
@[simp] theorem setMeasure_leaseLength : (s.setMeasure l m').leaseLength = s.leaseLength := rfl
@[simp] theorem setMeasure_lookup : (s.setMeasure l m').lookup = s.lookup := rfl
@[simp] theorem setMeasure_tick : (s.setMeasure l m').tick = s.tick := rfl
@[simp] theorem setMeasure_limit : (s.setMeasure l m').limit = s.limit := rfl
@[simp] theorem setMeasure_partNotices : (s.setMeasure l m').partNotices = s.partNotices := rfl
@[simp] theorem setMeasure_partPolicies : (s.setMeasure l m').partPolicies = s.partPolicies := rfl
@[simp] theorem setMeasure_control : (s.setMeasure l m').control = s.control := rfl
@[simp] theorem setMeasure_grading : (s.setMeasure l m').grading = s.grading := rfl
@[simp] theorem setMeasure_resetHeld : (s.setMeasure l m').resetHeld = s.resetHeld := rfl
@[simp] theorem setMeasure_pending : (s.setMeasure l m').pending = s.pending := rfl
@[simp] theorem setMeasure_seg (j : Slot) : (s.setMeasure l m').seg j = s.seg j := rfl
@[simp] theorem setMeasure_profile (p : ProfileNo) : (s.setMeasure l m').profile p = s.profile p := rfl

end

@[simp] theorem setMeasure_lane (s : State) (l : Lane) (m' : Option MeasurePoint) :
    (s.setMeasure l m').lane l = { s.lane l with measure := m' } := update_same _ _ _

theorem setMeasure_lane_other (s : State) (l : Lane) (m' : Option MeasurePoint) (m : Lane) (h : m ≠ l) :
    (s.setMeasure l m').lane m = s.lane m := update_other _ _ _ _ h

@[simp] theorem setMeasure_chain (s : State) (l : Lane) (m' : Option MeasurePoint) (m : Lane) :
    (s.setMeasure l m').chain m = s.chain m := by
  by_cases h : m = l
  · subst h; simp only [State.chain, setMeasure_lane]
  · simp only [State.chain, setMeasure_lane_other s l m' m h]

/-! ### A load of a lamp duty -/

section
variable (s : State) (l : Lane) (d : Nat)

@[simp] theorem setDuty_profiles : (s.setDuty l d).profiles = s.profiles := rfl
@[simp] theorem setDuty_segments : (s.setDuty l d).segments = s.segments := rfl
@[simp] theorem setDuty_freeList : (s.setDuty l d).freeList = s.freeList := rfl
@[simp] theorem setDuty_computeQueue : (s.setDuty l d).computeQueue = s.computeQueue := rfl
@[simp] theorem setDuty_engine : (s.setDuty l d).engine = s.engine := rfl
@[simp] theorem setDuty_lease : (s.setDuty l d).lease = s.lease := rfl
@[simp] theorem setDuty_leaseLength : (s.setDuty l d).leaseLength = s.leaseLength := rfl
@[simp] theorem setDuty_lookup : (s.setDuty l d).lookup = s.lookup := rfl
@[simp] theorem setDuty_tick : (s.setDuty l d).tick = s.tick := rfl
@[simp] theorem setDuty_limit : (s.setDuty l d).limit = s.limit := rfl
@[simp] theorem setDuty_partNotices : (s.setDuty l d).partNotices = s.partNotices := rfl
@[simp] theorem setDuty_partPolicies : (s.setDuty l d).partPolicies = s.partPolicies := rfl
@[simp] theorem setDuty_control : (s.setDuty l d).control = s.control := rfl
@[simp] theorem setDuty_grading : (s.setDuty l d).grading = s.grading := rfl
@[simp] theorem setDuty_resetHeld : (s.setDuty l d).resetHeld = s.resetHeld := rfl
@[simp] theorem setDuty_pending : (s.setDuty l d).pending = s.pending := rfl
@[simp] theorem setDuty_seg (j : Slot) : (s.setDuty l d).seg j = s.seg j := rfl
@[simp] theorem setDuty_profile (p : ProfileNo) : (s.setDuty l d).profile p = s.profile p := rfl

end

@[simp] theorem setDuty_lane (s : State) (l : Lane) (d : Nat) :
    (s.setDuty l d).lane l = { s.lane l with duty := d } := update_same _ _ _

theorem setDuty_lane_other (s : State) (l : Lane) (d : Nat) (m : Lane) (h : m ≠ l) :
    (s.setDuty l d).lane m = s.lane m := update_other _ _ _ _ h

@[simp] theorem setDuty_chain (s : State) (l : Lane) (d : Nat) (m : Lane) :
    (s.setDuty l d).chain m = s.chain m := by
  by_cases h : m = l
  · subst h; simp only [State.chain, setDuty_lane]
  · simp only [State.chain, setDuty_lane_other s l d m h]

/-! ### A lane notice raised -/

section
variable (s : State) (l : Lane) (k : LaneKind) (o : Option Slot)

@[simp] theorem raise_profiles : (s.raise l k o).profiles = s.profiles := rfl
@[simp] theorem raise_segments : (s.raise l k o).segments = s.segments := rfl
@[simp] theorem raise_freeList : (s.raise l k o).freeList = s.freeList := rfl
@[simp] theorem raise_computeQueue : (s.raise l k o).computeQueue = s.computeQueue := rfl
@[simp] theorem raise_engine : (s.raise l k o).engine = s.engine := rfl
@[simp] theorem raise_lease : (s.raise l k o).lease = s.lease := rfl
@[simp] theorem raise_leaseLength : (s.raise l k o).leaseLength = s.leaseLength := rfl
@[simp] theorem raise_lookup : (s.raise l k o).lookup = s.lookup := rfl
@[simp] theorem raise_tick : (s.raise l k o).tick = s.tick := rfl
@[simp] theorem raise_limit : (s.raise l k o).limit = s.limit := rfl
@[simp] theorem raise_partNotices : (s.raise l k o).partNotices = s.partNotices := rfl
@[simp] theorem raise_partPolicies : (s.raise l k o).partPolicies = s.partPolicies := rfl
@[simp] theorem raise_control : (s.raise l k o).control = s.control := rfl
@[simp] theorem raise_grading : (s.raise l k o).grading = s.grading := rfl
@[simp] theorem raise_resetHeld : (s.raise l k o).resetHeld = s.resetHeld := rfl
@[simp] theorem raise_pending : (s.raise l k o).pending = s.pending := rfl
@[simp] theorem raise_seg (j : Slot) : (s.raise l k o).seg j = s.seg j := rfl
@[simp] theorem raise_profile (p : ProfileNo) : (s.raise l k o).profile p = s.profile p := rfl

end

@[simp] theorem raise_lane (s : State) (l : Lane) (k : LaneKind) (o : Option Slot) :
    (s.raise l k o).lane l = { s.lane l with notices := update (s.lane l).notices k.index fun _ => { raised := true, latest := o } } := update_same _ _ _

theorem raise_lane_other (s : State) (l : Lane) (k : LaneKind) (o : Option Slot) (m : Lane) (h : m ≠ l) :
    (s.raise l k o).lane m = s.lane m := update_other _ _ _ _ h

@[simp] theorem raise_chain (s : State) (l : Lane) (k : LaneKind) (o : Option Slot) (m : Lane) :
    (s.raise l k o).chain m = s.chain m := by
  by_cases h : m = l
  · subst h; simp only [State.chain, raise_lane]
  · simp only [State.chain, raise_lane_other s l k o m h]

/-! ### A write of a record -/

section
variable (s : State) (i : Slot) (r : Option Segment)

@[simp] theorem putSeg_lanes : (s.putSeg i r).lanes = s.lanes := rfl
@[simp] theorem putSeg_profiles : (s.putSeg i r).profiles = s.profiles := rfl
@[simp] theorem putSeg_freeList : (s.putSeg i r).freeList = s.freeList := rfl
@[simp] theorem putSeg_computeQueue : (s.putSeg i r).computeQueue = s.computeQueue := rfl
@[simp] theorem putSeg_engine : (s.putSeg i r).engine = s.engine := rfl
@[simp] theorem putSeg_lease : (s.putSeg i r).lease = s.lease := rfl
@[simp] theorem putSeg_leaseLength : (s.putSeg i r).leaseLength = s.leaseLength := rfl
@[simp] theorem putSeg_lookup : (s.putSeg i r).lookup = s.lookup := rfl
@[simp] theorem putSeg_tick : (s.putSeg i r).tick = s.tick := rfl
@[simp] theorem putSeg_limit : (s.putSeg i r).limit = s.limit := rfl
@[simp] theorem putSeg_partNotices : (s.putSeg i r).partNotices = s.partNotices := rfl
@[simp] theorem putSeg_partPolicies : (s.putSeg i r).partPolicies = s.partPolicies := rfl
@[simp] theorem putSeg_control : (s.putSeg i r).control = s.control := rfl
@[simp] theorem putSeg_grading : (s.putSeg i r).grading = s.grading := rfl
@[simp] theorem putSeg_resetHeld : (s.putSeg i r).resetHeld = s.resetHeld := rfl
@[simp] theorem putSeg_pending : (s.putSeg i r).pending = s.pending := rfl
@[simp] theorem putSeg_lane (m : Lane) : (s.putSeg i r).lane m = s.lane m := rfl
@[simp] theorem putSeg_chain (m : Lane) : (s.putSeg i r).chain m = s.chain m := rfl
@[simp] theorem putSeg_profile (p : ProfileNo) : (s.putSeg i r).profile p = s.profile p := rfl

end

@[simp] theorem putSeg_seg (s : State) (i : Slot) (r : Option Segment) : (s.putSeg i r).seg i = r := update_same _ _ _

theorem putSeg_seg_other (s : State) (i : Slot) (r : Option Segment) (j : Slot) (h : j ≠ i) :
    (s.putSeg i r).seg j = s.seg j := update_other _ _ _ _ h

/-! ### A change of a record -/

section
variable (s : State) (i : Slot) (f : Segment → Segment)

@[simp] theorem onSeg_lanes : (s.onSeg i f).lanes = s.lanes := rfl
@[simp] theorem onSeg_profiles : (s.onSeg i f).profiles = s.profiles := rfl
@[simp] theorem onSeg_freeList : (s.onSeg i f).freeList = s.freeList := rfl
@[simp] theorem onSeg_computeQueue : (s.onSeg i f).computeQueue = s.computeQueue := rfl
@[simp] theorem onSeg_engine : (s.onSeg i f).engine = s.engine := rfl
@[simp] theorem onSeg_lease : (s.onSeg i f).lease = s.lease := rfl
@[simp] theorem onSeg_leaseLength : (s.onSeg i f).leaseLength = s.leaseLength := rfl
@[simp] theorem onSeg_lookup : (s.onSeg i f).lookup = s.lookup := rfl
@[simp] theorem onSeg_tick : (s.onSeg i f).tick = s.tick := rfl
@[simp] theorem onSeg_limit : (s.onSeg i f).limit = s.limit := rfl
@[simp] theorem onSeg_partNotices : (s.onSeg i f).partNotices = s.partNotices := rfl
@[simp] theorem onSeg_partPolicies : (s.onSeg i f).partPolicies = s.partPolicies := rfl
@[simp] theorem onSeg_control : (s.onSeg i f).control = s.control := rfl
@[simp] theorem onSeg_grading : (s.onSeg i f).grading = s.grading := rfl
@[simp] theorem onSeg_resetHeld : (s.onSeg i f).resetHeld = s.resetHeld := rfl
@[simp] theorem onSeg_pending : (s.onSeg i f).pending = s.pending := rfl
@[simp] theorem onSeg_lane (m : Lane) : (s.onSeg i f).lane m = s.lane m := rfl
@[simp] theorem onSeg_chain (m : Lane) : (s.onSeg i f).chain m = s.chain m := rfl
@[simp] theorem onSeg_profile (p : ProfileNo) : (s.onSeg i f).profile p = s.profile p := rfl

end

@[simp] theorem onSeg_seg (s : State) (i : Slot) (f : Segment → Segment) : (s.onSeg i f).seg i = (s.seg i).map f :=
  update_same _ _ _

theorem onSeg_seg_other (s : State) (i : Slot) (f : Segment → Segment) (j : Slot) (h : j ≠ i) :
    (s.onSeg i f).seg j = s.seg j := update_other _ _ _ _ h

/-! ### A write of the lookup unit -/

section
variable (s : State) (f : LookupUnit → LookupUnit)

@[simp] theorem onLookup_lanes : (s.onLookup f).lanes = s.lanes := rfl
@[simp] theorem onLookup_profiles : (s.onLookup f).profiles = s.profiles := rfl
@[simp] theorem onLookup_segments : (s.onLookup f).segments = s.segments := rfl
@[simp] theorem onLookup_freeList : (s.onLookup f).freeList = s.freeList := rfl
@[simp] theorem onLookup_computeQueue : (s.onLookup f).computeQueue = s.computeQueue := rfl
@[simp] theorem onLookup_engine : (s.onLookup f).engine = s.engine := rfl
@[simp] theorem onLookup_lease : (s.onLookup f).lease = s.lease := rfl
@[simp] theorem onLookup_leaseLength : (s.onLookup f).leaseLength = s.leaseLength := rfl
@[simp] theorem onLookup_tick : (s.onLookup f).tick = s.tick := rfl
@[simp] theorem onLookup_limit : (s.onLookup f).limit = s.limit := rfl
@[simp] theorem onLookup_partNotices : (s.onLookup f).partNotices = s.partNotices := rfl
@[simp] theorem onLookup_partPolicies : (s.onLookup f).partPolicies = s.partPolicies := rfl
@[simp] theorem onLookup_control : (s.onLookup f).control = s.control := rfl
@[simp] theorem onLookup_grading : (s.onLookup f).grading = s.grading := rfl
@[simp] theorem onLookup_resetHeld : (s.onLookup f).resetHeld = s.resetHeld := rfl
@[simp] theorem onLookup_pending : (s.onLookup f).pending = s.pending := rfl
@[simp] theorem onLookup_lane (m : Lane) : (s.onLookup f).lane m = s.lane m := rfl
@[simp] theorem onLookup_chain (m : Lane) : (s.onLookup f).chain m = s.chain m := rfl
@[simp] theorem onLookup_seg (j : Slot) : (s.onLookup f).seg j = s.seg j := rfl
@[simp] theorem onLookup_profile (p : ProfileNo) : (s.onLookup f).profile p = s.profile p := rfl

end

@[simp] theorem onLookup_lookup (s : State) (f : LookupUnit → LookupUnit) : (s.onLookup f).lookup = f s.lookup := rfl

/-! ### A part-wide notice raised -/

section
variable (s : State) (k : PartKind) (o : Option Slot)

@[simp] theorem raisePart_lanes : (s.raisePart k o).lanes = s.lanes := rfl
@[simp] theorem raisePart_profiles : (s.raisePart k o).profiles = s.profiles := rfl
@[simp] theorem raisePart_segments : (s.raisePart k o).segments = s.segments := rfl
@[simp] theorem raisePart_freeList : (s.raisePart k o).freeList = s.freeList := rfl
@[simp] theorem raisePart_computeQueue : (s.raisePart k o).computeQueue = s.computeQueue := rfl
@[simp] theorem raisePart_engine : (s.raisePart k o).engine = s.engine := rfl
@[simp] theorem raisePart_lease : (s.raisePart k o).lease = s.lease := rfl
@[simp] theorem raisePart_leaseLength : (s.raisePart k o).leaseLength = s.leaseLength := rfl
@[simp] theorem raisePart_lookup : (s.raisePart k o).lookup = s.lookup := rfl
@[simp] theorem raisePart_tick : (s.raisePart k o).tick = s.tick := rfl
@[simp] theorem raisePart_limit : (s.raisePart k o).limit = s.limit := rfl
@[simp] theorem raisePart_partPolicies : (s.raisePart k o).partPolicies = s.partPolicies := rfl
@[simp] theorem raisePart_control : (s.raisePart k o).control = s.control := rfl
@[simp] theorem raisePart_grading : (s.raisePart k o).grading = s.grading := rfl
@[simp] theorem raisePart_resetHeld : (s.raisePart k o).resetHeld = s.resetHeld := rfl
@[simp] theorem raisePart_pending : (s.raisePart k o).pending = s.pending := rfl
@[simp] theorem raisePart_lane (m : Lane) : (s.raisePart k o).lane m = s.lane m := rfl
@[simp] theorem raisePart_chain (m : Lane) : (s.raisePart k o).chain m = s.chain m := rfl
@[simp] theorem raisePart_seg (j : Slot) : (s.raisePart k o).seg j = s.seg j := rfl
@[simp] theorem raisePart_profile (p : ProfileNo) : (s.raisePart k o).profile p = s.profile p := rfl

end

@[simp] theorem raisePart_partNotices (s : State) (k : PartKind) (o : Option Slot) :
    (s.raisePart k o).partNotices[k.index.val] = { raised := true, latest := o } := update_same _ _ _

theorem raisePart_partNotices_other (s : State) (k : PartKind) (o : Option Slot) (j : Fin 5) (h : j ≠ k.index) :
    (s.raisePart k o).partNotices[j.val] = s.partNotices[j.val] := update_other _ _ _ _ h

/-! ### A write of a link -/

section
variable (s : State) (k : PortName) (f : Link → Link)

@[simp] theorem onLink_lanes : (s.onLink k f).lanes = s.lanes := by cases k <;> rfl
@[simp] theorem onLink_profiles : (s.onLink k f).profiles = s.profiles := by cases k <;> rfl
@[simp] theorem onLink_segments : (s.onLink k f).segments = s.segments := by cases k <;> rfl
@[simp] theorem onLink_freeList : (s.onLink k f).freeList = s.freeList := by cases k <;> rfl
@[simp] theorem onLink_computeQueue : (s.onLink k f).computeQueue = s.computeQueue := by cases k <;> rfl
@[simp] theorem onLink_engine : (s.onLink k f).engine = s.engine := by cases k <;> rfl
@[simp] theorem onLink_lease : (s.onLink k f).lease = s.lease := by cases k <;> rfl
@[simp] theorem onLink_leaseLength : (s.onLink k f).leaseLength = s.leaseLength := by cases k <;> rfl
@[simp] theorem onLink_lookup : (s.onLink k f).lookup = s.lookup := by cases k <;> rfl
@[simp] theorem onLink_tick : (s.onLink k f).tick = s.tick := by cases k <;> rfl
@[simp] theorem onLink_limit : (s.onLink k f).limit = s.limit := by cases k <;> rfl
@[simp] theorem onLink_partNotices : (s.onLink k f).partNotices = s.partNotices := by cases k <;> rfl
@[simp] theorem onLink_partPolicies : (s.onLink k f).partPolicies = s.partPolicies := by cases k <;> rfl
@[simp] theorem onLink_resetHeld : (s.onLink k f).resetHeld = s.resetHeld := by cases k <;> rfl
@[simp] theorem onLink_pending : (s.onLink k f).pending = s.pending := by cases k <;> rfl
@[simp] theorem onLink_lane (m : Lane) : (s.onLink k f).lane m = s.lane m := by cases k <;> rfl
@[simp] theorem onLink_chain (m : Lane) : (s.onLink k f).chain m = s.chain m := by cases k <;> rfl
@[simp] theorem onLink_seg (j : Slot) : (s.onLink k f).seg j = s.seg j := by cases k <;> rfl
@[simp] theorem onLink_profile (p : ProfileNo) : (s.onLink k f).profile p = s.profile p := by cases k <;> rfl

end

@[simp] theorem onLink_link (s : State) (k : PortName) (f : Link → Link) : (s.onLink k f).link k = f (s.link k) := by
  cases k <;> rfl

theorem onLink_link_other (s : State) (k m : PortName) (f : Link → Link) (h : m ≠ k) :
    (s.onLink k f).link m = s.link m := by
  cases k <;> cases m <;> first | rfl | exact absurd rfl h

@[simp] theorem onLink_control_control (s : State) (f : Link → Link) : (s.onLink .control f).control = f s.control := rfl

@[simp] theorem onLink_control_grading (s : State) (f : Link → Link) : (s.onLink .control f).grading = s.grading := rfl

@[simp] theorem onLink_grading_grading (s : State) (f : Link → Link) : (s.onLink .grading f).grading = f s.grading := rfl

@[simp] theorem onLink_grading_control (s : State) (f : Link → Link) : (s.onLink .grading f).control = s.control := rfl

end Sys2Proof.Machine
end

