-- ==== Sys2Proof/Laws/Ops.lean ====
section
/-! SUPPORT. One lemma per shared operation that says what it can do, for a proof to cite in place of the operation's body. -/

namespace Sys2Proof.Machine

/-! ### Numbers -/

/-- A revision stays from 1 to its greatest value (R18). -/
theorem nextRevision_range {n : Nat} (h : n ≤ Config.revisionMax) :
    1 ≤ nextRevision n ∧ nextRevision n ≤ Config.revisionMax := by
  simp only [nextRevision, Config.revisionMax] at *
  split <;> omega

theorem addSaturating_le (a b : Nat) : addSaturating a b ≤ Config.countMax := Nat.min_le_left _ _

theorem clampTo_range {lo hi x : Int} (h : lo ≤ hi) : lo ≤ clampTo lo hi x ∧ clampTo lo hi x ≤ hi := by
  simp only [clampTo]
  split
  · omega
  · split <;> omega

/-! ### The RESET line (R178) -/

/-- With the RESET line released a command has its effect. -/
theorem unlessReset_released {s : State} (h : s.resetHeld = false) (act : State → State) :
    s.unlessReset act = .next (act s) := by simp [State.unlessReset, h]

/-- With the RESET line held a command is ignored. -/
theorem unlessReset_held {s : State} (h : s.resetHeld = true) (act : State → State) : s.unlessReset act = .next s := by
  simp [State.unlessReset, h]

/-- What every step of a command that the RESET line gates keeps, if its effect keeps it. -/
theorem unlessReset_keeps {P : State → Prop} {s t : State} {act : State → State} (hs : P s) (ha : P (act s))
    (h : s.unlessReset act = .next t) : P t := by
  simp only [State.unlessReset] at h
  split at h <;> cases h
  · exact hs
  · exact ha

/-! ### Allocation (R2) -/

/-- An allocation takes the head of the Free List, and only while the chain holds fewer than 64. -/
theorem allocate_eq_some {s t : State} {l : Lane} {i : Slot} :
    s.allocate l = some (i, t) ↔
      ∃ rest, s.freeList = i :: rest ∧ (s.chain l).length < Config.chainMax ∧ t = { s with freeList := rest } := by
  simp only [State.allocate]
  split
  · rename_i h
    constructor
    · intro e; cases e
    · rintro ⟨rest, h', -, -⟩; rw [h] at h'; cases h'
  · rename_i j rest h
    split
    · rename_i hl
      constructor
      · intro e; cases e; exact ⟨rest, h, hl, rfl⟩
      · rintro ⟨rest', h', -, rfl⟩; rw [h] at h'; cases h'; rfl
    · rename_i hl
      constructor
      · intro e; cases e
      · rintro ⟨-, -, hl', -⟩; exact absurd hl' hl

/-- An allocation ends NO_SPACE exactly with the Free List empty or the chain full. -/
theorem allocate_eq_none {s : State} {l : Lane} :
    s.allocate l = none ↔ s.freeList = [] ∨ Config.chainMax ≤ (s.chain l).length := by
  simp only [State.allocate]
  split
  · rename_i h
    exact ⟨fun _ => Or.inl h, fun _ => rfl⟩
  · rename_i j rest h
    split
    · rename_i hl
      constructor
      · intro e; cases e
      · rintro (h' | h')
        · rw [h] at h'; cases h'
        · omega
    · rename_i hl
      exact ⟨fun _ => Or.inr (Nat.le_of_not_lt hl), fun _ => rfl⟩

@[simp] theorem install_lane (s : State) (l : Lane) (i : Slot) (r : Segment) (place : List Slot → List Slot) :
    (s.install l i r place).lane l =
      { s.lane l with reel := { (s.lane l).reel with chain := place (s.chain l) } } := by
  simp [State.install, State.chain]

theorem install_lane_other (s : State) (l : Lane) (i : Slot) (r : Segment) (place : List Slot → List Slot) (m : Lane)
    (h : m ≠ l) : (s.install l i r place).lane m = s.lane m := by
  simp [State.install, onReel_lane_other _ _ _ _ h]

@[simp] theorem install_seg (s : State) (l : Lane) (i : Slot) (r : Segment) (place : List Slot → List Slot) :
    (s.install l i r place).seg i = some r := by simp [State.install]

theorem install_seg_other (s : State) (l : Lane) (i : Slot) (r : Segment) (place : List Slot → List Slot) (j : Slot)
    (h : j ≠ i) : (s.install l i r place).seg j = s.seg j := by simp [State.install, putSeg_seg_other _ _ _ _ h]

/-! ### The engine and the Compute Queue (R103, R104) -/

/-- The engine begins the head of the queue when it is IDLE and one waits, and does nothing otherwise. -/
theorem engineBegin_cases (s : State) :
    (∃ i rest, s.engine = none ∧ s.computeQueue = i :: rest ∧
      s.engineBegin = { s with engine := some i, computeQueue := rest }) ∨
    ((s.engine ≠ none ∨ s.computeQueue = []) ∧ s.engineBegin = s) := by
  simp only [State.engineBegin]
  split
  · rename_i i rest he hq
    exact Or.inl ⟨i, rest, he, hq, rfl⟩
  · rename_i h
    refine Or.inr ⟨?_, rfl⟩
    cases he : s.engine with
    | some i => simp
    | none =>
      cases hq : s.computeQueue with
      | nil => simp
      | cons i rest => exact absurd hq (h i rest he)

/-- The engine's beginning changes the engine and the Compute Queue alone. -/
theorem engineBegin_eq (s : State) :
    s.engineBegin = { s with engine := s.engineBegin.engine, computeQueue := s.engineBegin.computeQueue } := by
  rcases engineBegin_cases s with ⟨i, rest, -, -, h⟩ | ⟨-, h⟩ <;> rw [h]

/-- A slot stands in the queue or in the engine after the engine begins exactly when it did before. -/
theorem mem_engineBegin (s : State) (j : Slot) :
    (j ∈ s.engineBegin.computeQueue ∨ s.engineBegin.engine = some j) ↔ (j ∈ s.computeQueue ∨ s.engine = some j) := by
  rcases engineBegin_cases s with ⟨i, rest, he, hq, h⟩ | ⟨-, h⟩
  · rw [h]; simp only [he, hq, List.mem_cons, Option.some.injEq]
    constructor
    · rintro (h | h)
      · exact Or.inl (Or.inr h)
      · exact Or.inl (Or.inl h.symm)
    · rintro ((h | h) | h)
      · exact Or.inr h.symm
      · exact Or.inl h
      · simp at h
  · rw [h]

/-- An entry into COMPUTING changes the engine and the Compute Queue alone. -/
theorem enqueue_eq (s : State) (i : Slot) :
    s.enqueue i = { s with engine := (s.enqueue i).engine, computeQueue := (s.enqueue i).computeQueue } := by
  simp only [State.enqueue]
  rw [engineBegin_eq]

/-- After an entry into COMPUTING the slot and those that stood in the queue or the engine before stand there. -/
theorem mem_enqueue (s : State) (i j : Slot) :
    (j ∈ (s.enqueue i).computeQueue ∨ (s.enqueue i).engine = some j) ↔
      (j = i ∨ j ∈ s.computeQueue ∨ s.engine = some j) := by
  simp only [State.enqueue, mem_engineBegin, List.mem_append, List.mem_singleton]
  constructor
  · rintro ((h | h) | h) <;> simp [h]
  · rintro (h | h | h) <;> simp [h]

/-! ### Freeing (R4) -/

/-- A freeing, whole: the record FREE, its slot out of the chain, the queue and the engine, and at the tail of the Free List. -/
theorem freeSlot_of_seg {s : State} {i : Slot} {r : Segment} (h : s.seg i = some r) :
    (s.freeSlot i).seg i = none ∧ (∀ j, j ≠ i → (s.freeSlot i).seg j = s.seg j) ∧
    (s.freeSlot i).freeList = s.freeList ++ [i] ∧
    (s.freeSlot i).lane r.lane =
      { s.lane r.lane with reel := { (s.lane r.lane).reel with chain := (s.chain r.lane).erase i } } ∧
    (∀ m, m ≠ r.lane → (s.freeSlot i).lane m = s.lane m) ∧
    (s.freeSlot i).computeQueue = s.computeQueue.erase i ∧
    (s.freeSlot i).engine = (if s.engine = some i then none else s.engine) := by
  have unfolded : s.freeSlot i = { (s.putSeg i none).onReel r.lane fun q => { q with chain := q.chain.erase i } with
      freeList := s.freeList ++ [i]
      computeQueue := s.computeQueue.erase i
      engine := if s.engine = some i then none else s.engine } := by simp only [State.freeSlot, h]
  rw [unfolded]
  refine ⟨?_, ?_, rfl, ?_, ?_, rfl, rfl⟩
  · exact putSeg_seg s i none
  · exact fun j hj => putSeg_seg_other s i none j hj
  · exact onReel_lane (s.putSeg i none) r.lane fun q => { q with chain := q.chain.erase i }
  · exact fun m hm => onReel_lane_other (s.putSeg i none) r.lane (fun q => { q with chain := q.chain.erase i }) m hm

/-- A freeing of a FREE slot does nothing. -/
theorem freeSlot_of_free {s : State} {i : Slot} (h : s.seg i = none) : s.freeSlot i = s := by
  simp only [State.freeSlot, h]

/-! ### Revisions and replies (R18, R171) -/

/-- The one increment of an operation writes one record's revision or nothing. -/
theorem revise_cases (s before : State) (i : Slot) :
    s.revise before i = s ∨
      ∃ a, before.seg i = some a ∧
        s.revise before i = s.onSeg i fun r => { r with revision := nextRevision a.revision } := by
  simp only [State.revise]
  split
  · rename_i a b ha hb
    split
    · exact Or.inl rfl
    · exact Or.inr ⟨a, ha, rfl⟩
  · exact Or.inl rfl

/-- A reply fills the link's slot and completes its request. -/
@[simp] theorem reply_link (s : State) (k : PortName) (status : ReplyStatus) (reason : Reason) (payload : List WireField) :
    (s.reply k status reason payload).link k =
      { s.link k with
        slot := some { status := status, reason := reason, payload := payload, ignored := false }
        dispatched := none } := by
  simp [State.reply]

/-- The other link is as it was. -/
theorem reply_link_other (s : State) (k m : PortName) (status : ReplyStatus) (reason : Reason) (payload : List WireField)
    (h : m ≠ k) : (s.reply k status reason payload).link m = s.link m := by
  simp only [State.reply]
  exact onLink_link_other s k m _ h

/-- A reply makes READY active. -/
theorem reply_ready (s : State) (k : PortName) (status : ReplyStatus) (reason : Reason) (payload : List WireField) :
    ((s.reply k status reason payload).link k).ready = true := by
  simp [Link.ready]

/-- A refusal is a REFUSED reply with its reason, and nothing else (R173). -/
theorem refuse_eq (s : State) (k : PortName) (reason : Reason) : s.refuse k reason = s.reply k .refused reason [] := rfl

/-! ### Settling and closing (R20, R21) -/

/-- A settle writes the one record and no other. -/
theorem settle_seg {s : State} {i : Slot} {r : Segment} (pitch : Nat) (h : s.seg i = some r) :
    (s.settle i pitch).seg i = some (({ r with pitch := pitch } : Segment).settled (s.profile r.profile)) ∧
    ∀ j, j ≠ i → (s.settle i pitch).seg j = s.seg j := by
  simp only [State.settle, h]
  split
  · rw [enqueue_eq]
    exact ⟨putSeg_seg s i _, fun j hj => putSeg_seg_other s i _ j hj⟩
  · exact ⟨putSeg_seg s i _, fun j hj => putSeg_seg_other s i _ j hj⟩
  · exact ⟨putSeg_seg s i _, fun j hj => putSeg_seg_other s i _ j hj⟩

/-- A settled segment is no longer MEASURING, whichever row of R21 it takes. -/
theorem settled_phase (r : Segment) (p : Profile) : (r.settled p).phase = .settled ∨ (r.settled p).phase = .computing := by
  simp only [Segment.settled]
  split <;> simp

/-- A settle changes neither the extent nor the anchor nor the owner. -/
theorem settled_keeps (r : Segment) (p : Profile) :
    (r.settled p).first = r.first ∧ (r.settled p).last = r.last ∧ (r.settled p).anchorFrame = r.anchorFrame ∧
    (r.settled p).anchorPosition = r.anchorPosition ∧ (r.settled p).pitch = r.pitch ∧ (r.settled p).owner = r.owner ∧
    (r.settled p).life = r.life ∧ (r.settled p).lane = r.lane ∧ (r.settled p).acc = r.acc ∧
    (r.settled p).revision = r.revision := by
  simp only [Segment.settled]
  split <;> simp [Segment.defaultGrade]

/-! ### The Deferred Set (R138, R139) -/

/-- The entries that stay and the answers made are as many as the entries there were. -/
theorem kept_add_made (entries : List Disposal) :
    (entries.filterMap Disposal.kept).length + (entries.filterMap Disposal.made).length = entries.length := by
  induction entries with
  | nil => rfl
  | cons d rest ih =>
    cases d <;> simp only [List.filterMap_cons, Disposal.kept, Disposal.made, List.length_cons] <;> omega

/-- No event that deals with the Deferred Set changes the reservation count (R134). -/
theorem dispose_reservations (s : State) (deal : Deferral → Disposal) : (s.dispose deal).reservations = s.reservations := by
  have h := kept_add_made (s.lookup.deferred.map deal)
  simp only [List.length_map] at h
  simp only [State.reservations, State.dispose, onLookup_lookup, List.length_append]
  omega

/-- An event that deals with the Deferred Set writes its entries and the Answer Queue alone. -/
theorem dispose_eq (s : State) (deal : Deferral → Disposal) :
    s.dispose deal = { s with lookup := { s.lookup with
      deferred := (s.lookup.deferred.map deal).filterMap Disposal.kept
      answers := s.lookup.answers ++ (s.lookup.deferred.map deal).filterMap Disposal.made } } := rfl

theorem recheck_reservations (s : State) (concerned : Deferral → Bool) : (s.recheck concerned).reservations = s.reservations :=
  dispose_reservations s _

/-- A re-check that concerns no entry does nothing. -/
theorem recheck_none (s : State) (concerned : Deferral → Bool) (h : ∀ e ∈ s.lookup.deferred, concerned e = false) :
    s.recheck concerned = s := by
  have key : ∀ es : List Deferral, (∀ e ∈ es, concerned e = false) →
      (es.map fun e => if concerned e then s.recheckEntry e else .keep e).filterMap Disposal.kept = es ∧
      (es.map fun e => if concerned e then s.recheckEntry e else .keep e).filterMap Disposal.made = [] := by
    intro es
    induction es with
    | nil => simp
    | cons e rest ih =>
      intro hes
      have he := hes e (by simp)
      have hr := ih fun d hd => hes d (by simp [hd])
      refine ⟨?_, ?_⟩
      · simp only [List.map_cons, List.filterMap_cons, he, Bool.false_eq_true, if_false, Disposal.kept]
        rw [hr.1]
      · simp only [List.map_cons, List.filterMap_cons, he, Bool.false_eq_true, if_false, Disposal.made]
        exact hr.2
  have := key s.lookup.deferred h
  simp only [State.recheck, dispose_eq, this.1, this.2, List.append_nil]

/-! ### Retirement (R155-R157) -/

/-- The re-check of one slot frees it or does nothing, and frees only a RETIRING segment that nothing holds. -/
theorem retireSlot_cases (s : State) (i : Slot) :
    s.retireSlot i = s ∨
      ∃ r, s.seg i = some r ∧ r.life = .retiring ∧ s.held i r = false ∧ s.retireSlot i = s.freeSlot i := by
  simp only [State.retireSlot]
  split
  · rename_i r hr
    split
    · rename_i h; exact Or.inr ⟨r, hr, h.1, h.2, rfl⟩
    · exact Or.inl rfl
  · exact Or.inl rfl

/-- A LIVE segment outlives the re-check of any slot. -/
theorem retireSlot_live {s : State} {j : Slot} {r : Segment} (i : Slot) (h : s.seg j = some r) (live : r.life = .live) :
    (s.retireSlot i).seg j = some r := by
  rcases retireSlot_cases s i with e | ⟨q, hq, ret, -, e⟩
  · rw [e]; exact h
  · rw [e]
    by_cases hij : j = i
    · subst hij; rw [h] at hq; cases hq; rw [live] at ret; cases ret
    · rw [(freeSlot_of_seg hq).2.1 j hij]; exact h

/-- A LIVE segment outlives the re-check of a chain. -/
theorem retireChain_live {s : State} {j : Slot} {r : Segment} (named : Slot → Bool) (l : Lane) (h : s.seg j = some r)
    (live : r.life = .live) : (s.retireChain named l).seg j = some r := by
  simp only [State.retireChain]
  generalize s.chain l = chain
  induction chain generalizing s with
  | nil => exact h
  | cons i rest ih =>
    simp only [List.foldl_cons]
    apply ih
    split
    · exact retireSlot_live i h live
    · exact h

@[simp] theorem endClosing_seg (s : State) (l : Lane) (j : Slot) : (s.endClosing l).seg j = s.seg j := by
  simp only [State.endClosing]; split <;> rfl

/-- A LIVE segment outlives every re-check. -/
theorem retire_live {s : State} {j : Slot} {r : Segment} (named : Slot → Bool) (h : s.seg j = some r)
    (live : r.life = .live) : (s.retire named).seg j = some r := by
  have lane : ∀ (u : State) (l : Lane), u.seg j = some r → (u.retireLane named l).seg j = some r := by
    intro u l hu
    simp only [State.retireLane]
    split
    · simp only [endClosing_seg]; exact retireChain_live named l hu live
    · exact retireChain_live named l hu live
  simp only [State.retire]
  exact lane _ 3 (lane _ 2 (lane _ 1 (lane _ 0 h)))

/-! ### The console's holds (R130) -/

/-- A hold that is dropped leaves owner AUTO and no take pending. -/
theorem dropHold_free (r : Segment) : r.dropHold.owner = .auto ∧ r.dropHold.takePending = false := by
  simp only [Segment.dropHold]
  split
  · exact ⟨rfl, rfl⟩
  · rename_i h
    refine ⟨?_, rfl⟩
    cases ho : r.owner <;> simp_all

/-! ### Lookups (R135, R138, R142) -/

/-- A lookup that is placed makes one answer or one entry. -/
theorem placeLookup_reservations (s : State) (tag : Nat) (l : Lane) (f : Nat) :
    (s.placeLookup tag l f).reservations = s.reservations + 1 := by
  simp only [State.placeLookup, State.pushAnswer, State.reservations]
  split
  · simp; omega
  · simp; omega
  · split
    · simp; omega
    · simp; omega

/-! ### Retirement and the lookup unit -/

@[simp] theorem freeSlot_lookup (s : State) (i : Slot) : (s.freeSlot i).lookup = s.lookup := by
  simp only [State.freeSlot]; split <;> rfl

@[simp] theorem retireSlot_lookup (s : State) (i : Slot) : (s.retireSlot i).lookup = s.lookup := by
  rcases retireSlot_cases s i with h | ⟨r, -, -, -, h⟩ <;> rw [h]; simp

@[simp] theorem retireChain_lookup (s : State) (named : Slot → Bool) (l : Lane) : (s.retireChain named l).lookup = s.lookup := by
  have key : ∀ (is : List Slot) (u : State),
      (is.foldl (fun s i => if named i then s.retireSlot i else s) u).lookup = u.lookup := by
    intro is
    induction is with
    | nil => intro u; rfl
    | cons i rest ih => intro u; rw [List.foldl_cons, ih]; split <;> simp
  exact key _ s

@[simp] theorem endClosing_lookup (s : State) (l : Lane) : (s.endClosing l).lookup = s.lookup := by
  simp only [State.endClosing]; split <;> rfl

@[simp] theorem retireLane_lookup (s : State) (named : Slot → Bool) (l : Lane) : (s.retireLane named l).lookup = s.lookup := by
  simp only [State.retireLane]; split <;> simp

/-- A retirement frees slots and leaves the lookup unit alone. -/
@[simp] theorem retire_lookup (s : State) (named : Slot → Bool) : (s.retire named).lookup = s.lookup := by
  simp [State.retire]

/-! ### Expiry (R141, R142) -/

/-- An expiry takes its entry from the set and adds its answer to the tail of the queue, and nothing else of the lookup unit. -/
theorem expireEntry_lookup (s : State) (e : Deferral) :
    (s.expireEntry e).lookup =
      { s.lookup with deferred := s.lookup.deferred.erase e, answers := s.lookup.answers ++ [(s.provisionalAnswer e).1] } := by
  simp [State.expireEntry]

/-- With no entry at its last tick there is no expiry. -/
theorem expire_none {s : State} (h : ∀ e ∈ s.lookup.deferred, e.lastTick = false) : s.expire = s := by
  have : s.lookup.deferred.find? Deferral.lastTick = none := by
    rw [List.find?_eq_none]; intro e he; simp [h e he]
  simp [State.expire, this]

/-- The oldest entry at its last tick is the one that expires. -/
theorem expire_first {s : State} {before after : List Deferral} {e : Deferral}
    (h : s.lookup.deferred = before ++ e :: after) (hb : ∀ d ∈ before, d.lastTick = false) (he : e.lastTick = true) :
    s.expire = s.expireEntry e ∧ s.lookup.deferred.erase e = before ++ after := by
  have hf : s.lookup.deferred.find? Deferral.lastTick = some e := by
    rw [h, List.find?_append, List.find?_eq_none.mpr (by intro d hd; simp [hb d hd])]
    simp [he]
  refine ⟨by simp [State.expire, hf], ?_⟩
  rw [h, List.erase_append_right]
  · simp
  · intro hm
    rw [hb e hm] at he
    cases he

/-- The entries that a tick brings to 0 leave the set, one expiry after the other, and the others keep their order. -/
theorem expireEach_deferred (s : State) :
    (s.expireEach (s.lookup.deferred.filter Deferral.lastTick)).lookup.deferred =
      s.lookup.deferred.filter fun e => !e.lastTick := by
  have key : ∀ (n : Nat) (u : State), (u.lookup.deferred.filter Deferral.lastTick).length = n →
      (u.expireEach (u.lookup.deferred.filter Deferral.lastTick)).lookup.deferred =
        u.lookup.deferred.filter fun e => !e.lastTick := by
    intro n
    induction n with
    | zero =>
      intro u hn
      rw [List.length_eq_zero_iff] at hn
      rw [hn]
      simp only [State.expireEach, List.foldl_nil]
      rw [List.filter_eq_nil_iff] at hn
      rw [List.filter_eq_self.mpr]
      intro e he
      simp [hn e he]
    | succ n ih =>
      intro u hn
      cases hd : u.lookup.deferred.filter Deferral.lastTick with
      | nil => rw [hd] at hn; cases hn
      | cons e rest =>
        obtain ⟨before, after, h1, h2, h3, h4⟩ := List.filter_eq_cons_iff.mp hd
        have hb : ∀ d ∈ before, d.lastTick = false := fun d hd => by simpa using h2 d hd
        have he := (expire_first h1 hb h3).2
        have hl : (u.expireEntry e).lookup.deferred = before ++ after := by rw [expireEntry_lookup]; exact he
        have hr : (u.expireEntry e).lookup.deferred.filter Deferral.lastTick = rest := by
          rw [hl, List.filter_append, h4, List.filter_eq_nil_iff.mpr (by intro d hd; simp [hb d hd])]
          rfl
        have step := ih (u.expireEntry e) (by rw [hr]; rw [hd] at hn; simpa using hn)
        rw [hr] at step
        simp only [State.expireEach, List.foldl_cons] at step ⊢
        rw [step, hl, h1]
        simp [List.filter_append, h3]
  exact key _ s rfl

end Sys2Proof.Machine
end

