-- ==== Sys2Proof/Laws/Frames.lean ====
section
/-! SUPPORT. What no film-side operation changes: the settings of the part, its profiles, links and timers. One lemma per operation, up to the five gate words and the closing of a reel. -/

namespace Sys2Proof.Machine

/-- What the film side of the part reads but never writes. -/
structure Settings where
  profiles : Vector Profile 16
  partNotices : Vector NoticeFlag 5
  partPolicies : Vector Policy 5
  control : Link
  grading : Link
  lease : Option Nat
  leaseLength : Nat
  tick : TickSelect
  limit : Nat
  enabled : Bool
  order : ByteOrder
  layout : List FieldCode
  status : LinkStatus
  shifted : List Byte
  resetHeld : Bool
  pending : List Instr

/-- The settings of a state. -/
def State.settings (s : State) : Settings :=
  { profiles := s.profiles, partNotices := s.partNotices, partPolicies := s.partPolicies, control := s.control,
    grading := s.grading, lease := s.lease, leaseLength := s.leaseLength, tick := s.tick, limit := s.limit,
    enabled := s.lookup.enabled, order := s.lookup.order, layout := s.lookup.layout, status := s.lookup.status,
    shifted := s.lookup.shifted, resetHeld := s.resetHeld,
    pending := s.pending }

section
variable (s before : State) (l : Lane)


@[simp] theorem onLane_settings (f : LaneState → LaneState) : (s.onLane l f).settings = s.settings := rfl

@[simp] theorem onReel_settings (f : Reel → Reel) : (s.onReel l f).settings = s.settings := rfl

@[simp] theorem onTracker_settings (f : Tracker → Tracker) : (s.onTracker l f).settings = s.settings := rfl

@[simp] theorem setQueue_settings (q : List Candidate) : (s.setQueue l q).settings = s.settings := rfl

@[simp] theorem setMeasure_settings (m : Option MeasurePoint) : (s.setMeasure l m).settings = s.settings := rfl

@[simp] theorem setDuty_settings (d : Nat) : (s.setDuty l d).settings = s.settings := rfl

@[simp] theorem raise_settings (k : LaneKind) (o : Option Slot) : (s.raise l k o).settings = s.settings := rfl

@[simp] theorem putSeg_settings (i : Slot) (r : Option Segment) : (s.putSeg i r).settings = s.settings := rfl

@[simp] theorem onSeg_settings (i : Slot) (f : Segment → Segment) : (s.onSeg i f).settings = s.settings := rfl

@[simp] theorem install_settings (i : Slot) (r : Segment) (place : List Slot → List Slot) : (s.install l i r place).settings = s.settings := rfl

@[simp] theorem engineBegin_settings :
    (s.engineBegin).settings = s.settings := by
  rw [engineBegin_eq]; rfl

@[simp] theorem enqueue_settings (i : Slot) :
    (s.enqueue i).settings = s.settings := by
  rw [enqueue_eq]; rfl

@[simp] theorem freeSlot_settings (i : Slot) :
    (s.freeSlot i).settings = s.settings := by
  simp only [State.freeSlot]; split <;> rfl

@[simp] theorem revise_settings (i : Slot) :
    (s.revise before i).settings = s.settings := by
  rcases revise_cases s before i with h | ⟨a, -, h⟩ <;> rw [h]; rfl

@[simp] theorem settle_settings (i : Slot) (pitch : Nat) :
    (s.settle i pitch).settings = s.settings := by
  simp only [State.settle]; split
  · rfl
  · split <;> simp

@[simp] theorem closeSeg_settings (i : Slot) (last pitch : Nat) :
    (s.closeSeg i last pitch).settings = s.settings := by
  simp only [State.closeSeg]; split
  · rfl
  · split <;> simp

@[simp] theorem closeOpen_settings :
    (s.closeOpen l).settings = s.settings := by
  simp only [State.closeOpen]; split <;> simp

@[simp] theorem dispose_settings (deal : Deferral → Disposal) : (s.dispose deal).settings = s.settings := rfl

@[simp] theorem recheck_settings (concerned : Deferral → Bool) : (s.recheck concerned).settings = s.settings := rfl

@[simp] theorem recheckFrame_settings : (s.recheckFrame before l).settings = s.settings := rfl

@[simp] theorem retireSlot_settings (i : Slot) :
    (s.retireSlot i).settings = s.settings := by
  rcases retireSlot_cases s i with h | ⟨r, -, -, -, h⟩ <;> rw [h]; simp

/-- A fold of operations that keep the settings keeps them. -/
theorem foldl_settings {α : Type} (f : State → α → State) (h : ∀ s a, (f s a).settings = s.settings) (xs : List α) :
    (xs.foldl f s).settings = s.settings := by
  induction xs generalizing s with
  | nil => rfl
  | cons x rest ih => rw [List.foldl_cons, ih, h]

@[simp] theorem endClosing_settings :
    (s.endClosing l).settings = s.settings := by
  simp only [State.endClosing]; split <;> rfl

@[simp] theorem retireChain_settings (named : Slot → Bool) :
    (s.retireChain named l).settings = s.settings := by
  apply foldl_settings
  intro s i; split <;> simp

@[simp] theorem retireLane_settings (named : Slot → Bool) :
    (s.retireLane named l).settings = s.settings := by
  simp only [State.retireLane]; split <;> simp

@[simp] theorem retire_settings (named : Slot → Bool) :
    (s.retire named).settings = s.settings := by
  simp [State.retire]

@[simp] theorem accumulate_settings (i : Slot) (acc : Accum) :
    (s.accumulate i acc).settings = s.settings := by
  simp only [State.accumulate]; split
  · rfl
  · split <;> simp

@[simp] theorem handBack_settings (acc : Accum) :
    (s.handBack l acc).settings = s.settings := by
  simp only [State.handBack]; split
  · rfl
  · split <;> simp

@[simp] theorem teardownQueue_settings :
    (s.teardownQueue l).settings = s.settings := by
  simp only [State.teardownQueue, setQueue_settings]
  exact foldl_settings s _ (fun s (e : Candidate) => handBack_settings s l e.acc) _

@[simp] theorem arrive_settings (c : Candidate) :
    (s.arrive l c).settings = s.settings := by
  simp only [State.arrive]
  repeat' split
  all_goals simp

/-- An allocation changes the Free List alone. -/
theorem allocate_settings {t : State} {i : Slot} (h : s.allocate l = some (i, t)) : t.settings = s.settings := by
  obtain ⟨rest, -, -, rfl⟩ := allocate_eq_some.mp h
  rfl

/-- A split keeps the settings. -/
theorem split_settings {t : State} {f : Nat} {position : Int} {kind : CandidateKind} {span : Nat} {acc : Accum}
    (h : s.split l f position kind span acc = some t) : t.settings = s.settings := by
  simp only [State.split] at h
  split at h
  · rename_i i r j u ho ha
    have hu := allocate_settings s l ha
    cases h
    split <;> simp [hu]
  · cases h

@[simp] theorem splitOrFull_settings (f : Nat) (position : Int) (kind : CandidateKind) (span : Nat) (acc : Accum) :
    (s.splitOrFull l f position kind span acc).1.settings = s.settings := by
  simp only [State.splitOrFull]
  split
  · rename_i t h; exact split_settings s l h
  · rfl

@[simp] theorem resolveTests_settings (e : Candidate) (c : Nat) (x : Int) :
    (s.resolveTests l e c x).1.settings = s.settings := by
  simp only [State.resolveTests]
  split
  · rfl
  · split <;> simp

@[simp] theorem resolveEarly_settings (e : Candidate) (c : Nat) (x : Int) :
    (s.resolveEarly l e c x).settings = s.settings := by
  simp only [State.resolveEarly]; split <;> simp

@[simp] theorem earlyHead_settings (n : Nat) :
    (s.earlyHead l n).settings = s.settings := by
  simp only [State.earlyHead]; split
  · split <;> simp
  · rfl

@[simp] theorem resolveFrame_settings (n : Nat) (position : Int) :
    (s.resolveFrame l n position).1.settings = s.settings := by
  simp only [State.resolveFrame]
  split
  · simp
  · split
    · simp
    · split <;> simp

@[simp] theorem resolveForGap_settings (c : Nat) (x : Int) :
    (s.resolveForGap l c x).settings = s.settings := by
  simp only [State.resolveForGap]
  rw [foldl_settings _ _ (fun s e => resolveEarly_settings s l e c x)]; simp

@[simp] theorem countFrames_settings (p c : Nat) :
    (s.countFrames l p c).settings = s.settings := by
  simp only [State.countFrames]; split
  · rfl
  · split
    · split <;> simp
    · simp

@[simp] theorem reviseOpen_settings :
    (s.reviseOpen before l).settings = s.settings := by
  simp only [State.reviseOpen]; split
  · split <;> simp
  · rfl

@[simp] theorem setDeadline_settings : (s.setDeadline l).settings = s.settings := rfl

@[simp] theorem loadLamp_settings :
    (s.loadLamp l).settings = s.settings := by
  simp only [State.loadLamp]; split <;> rfl

@[simp] theorem takeFrame_settings (n : Nat) (position : Int) (accepted : Bool) :
    (s.takeFrame l n position accepted).settings = s.settings := by
  simp only [State.takeFrame]
  cases accepted <;> simp

@[simp] theorem enterEnded_settings :
    (s.enterEnded l).settings = s.settings := by
  simp only [State.enterEnded]; split <;> simp

@[simp] theorem endOfRange_settings :
    (s.endOfRange l).settings = s.settings := by
  simp [State.endOfRange]

@[simp] theorem driftWatch_settings (r : Segment) (n : Nat) (position : Int) :
    (s.driftWatch l r n position).settings = s.settings := by
  simp only [State.driftWatch]
  repeat' split
  all_goals simp

@[simp] theorem watch_settings (n : Nat) (position : Int) (previous : Option Int) :
    (s.watch l n position previous).settings = s.settings := by
  simp only [State.watch]
  repeat' split
  all_goals simp

@[simp] theorem acceptPerf_settings (position : Int) :
    (s.acceptPerf l position).settings = s.settings := by
  simp only [State.acceptPerf]
  repeat' split
  all_goals simp

@[simp] theorem enterLost_settings : (s.enterLost l).settings = s.settings := rfl

@[simp] theorem synthesise_settings (T : Int) (bound : Nat) :
    (State.synthesise l T bound s).settings = s.settings := by
  induction bound generalizing s with
  | zero => rfl
  | succ n ih =>
    simp only [State.synthesise]
    repeat' split
    all_goals simp [ih]

@[simp] theorem firstLock_settings (a c : Int) :
    (s.firstLock l a c).settings = s.settings := by
  simp only [State.firstLock]
  split
  · rename_i ha _; simp [allocate_settings s l ha]
  · simp

@[simp] theorem threadPerf_settings (position : Int) :
    (s.threadPerf l position).settings = s.settings := by
  simp only [State.threadPerf]; split <;> simp

@[simp] theorem endRelock_settings (wasLost : Bool) :
    (s.endRelock l wasLost).settings = s.settings := by
  simp only [State.endRelock]; split <;> simp

@[simp] theorem relockInPlace_settings (n : Nat) (p0 p1 p2 : Int) :
    (s.relockInPlace l n p0 p1 p2).settings = s.settings := by
  simp [State.relockInPlace]

@[simp] theorem relockGap_settings (n c : Nat) (x p0 p2 : Int) :
    (s.relockGap l n c x p0 p2).settings = s.settings := by
  simp only [State.relockGap, recheckFrame_settings, loadLamp_settings, setDeadline_settings, onTracker_settings,
    reviseOpen_settings]
  split <;> simp

@[simp] theorem relock_settings (p0 p1 p2 : Int) :
    (s.relock l p0 p1 p2).settings = s.settings := by
  simp only [State.relock]
  repeat' split
  all_goals simp

@[simp] theorem relockPerf_settings (position : Int) :
    (s.relockPerf l position).settings = s.settings := by
  simp only [State.relockPerf]
  repeat' split
  all_goals simp

@[simp] theorem faultWord_settings :
    (s.faultWord l).settings = s.settings := by
  simp only [State.faultWord]; split <;> simp

/-- A word that is checked first keeps the settings when its act does. -/
theorem checkedWord_settings (position : Nat) (act : State → State) (h : (act s).settings = s.settings) :
    (s.checkedWord l position act).settings = s.settings := by
  simp only [State.checkedWord]
  repeat' split
  all_goals simp [h]

@[simp] theorem perfWord_settings (position strength : Nat) :
    (s.perfWord l position strength).settings = s.settings := by
  apply checkedWord_settings
  repeat' split
  all_goals simp

@[simp] theorem spliceCandidateArrives_settings (position : Int) (kind : CandidateKind) :
    (s.spliceCandidateArrives l position kind).settings = s.settings := by
  simp only [State.spliceCandidateArrives]
  repeat' split
  all_goals simp

@[simp] theorem spliceWord_settings (position kind : Nat) :
    (s.spliceWord l position kind).settings = s.settings := by
  simp only [State.spliceWord]; split
  · simp
  · apply checkedWord_settings
    repeat' split
    all_goals simp

@[simp] theorem travelWord_settings (position : Nat) :
    (s.travelWord l position).settings = s.settings := by
  apply checkedWord_settings
  repeat' split
  all_goals simp

@[simp] theorem runoutWord_settings (position : Nat) :
    (s.runoutWord l position).settings = s.settings := by
  apply checkedWord_settings; simp

@[simp] theorem stopRegradeAt_settings (i : Slot) :
    (s.stopRegradeAt i).settings = s.settings := by
  simp only [State.stopRegradeAt]; split
  · rfl
  · split <;> simp

@[simp] theorem beginClosing_settings :
    (s.beginClosing l).settings = s.settings := by
  simp only [State.beginClosing, onLane_settings]
  rw [foldl_settings _ _ (fun s i => onSeg_settings s i _), foldl_settings _ _ (fun t i => revise_settings t s i),
    foldl_settings _ _ stopRegradeAt_settings]
  simp

@[simp] theorem closeDeferrals_settings : (s.closeDeferrals l).settings = s.settings := rfl

@[simp] theorem closeReel_settings :
    (s.closeReel l).settings = s.settings := by
  simp [State.closeReel]

end

end Sys2Proof.Machine
end

