-- ==== Sys2Proof/Laws/Records.lean ====
section
/-! SUPPORT. The records of Safety.lean against the operations of the model: one lemma each, for a proof to pass from the one to the other, and their small lemmas. -/

namespace Sys2Proof.Machine

/-! ### The pitch and the settle -/

theorem pitchMeasured_eq (r : Segment) (m : Nat) (p : Int) : pitchMeasured r m p = r.pitchTo m p := by
  simp only [pitchMeasured, Segment.pitchTo, clampPitch, clampTo, Config.pitchMin, Config.pitchMax]
  split
  · split
    · omega
    · split <;> omega
  · rfl

theorem pitchAtMeasure_eq (r : Segment) (m : Option MeasurePoint) : pitchAtMeasure r m = r.estimate m := by
  cases m with
  | none => rfl
  | some q => exact pitchMeasured_eq r q.frame q.position

/-- A settle with the pitch given is the model's, by its three rows (R21). -/
theorem settledAs_eq (p : Profile) (pitch : Nat) (r : Segment) :
    settledAs p.fade pitch r = ({ r with pitch := pitch } : Segment).settled p := by
  by_cases h1 : r.owner = .console ∨ r.source = .console
  · simp [settledAs, Segment.settled, Segment.settleRow, h1, Segment.keptLuminance, Accum.luminance, Rgb.total,
      Config.gradeSummaries]
  · by_cases h2 : 4 ≤ r.acc.count
    · simp [settledAs, Segment.settled, Segment.settleRow, h1, h2, Config.gradeSummaries]
    · simp [settledAs, Segment.settled, Segment.settleRow, h1, h2, Config.gradeSummaries, Segment.defaultGrade]

/-! ### Frames on the links -/

/-- A field's bytes are its value's, placed. -/
theorem wireField_bytes_placed (order : ByteOrder) (f : WireField) : f.bytes order = placed order f.size f.value := by
  rw [wireField_bytes_eq]
  cases order
  · simp [placed, List.map_reverse]
  · rfl

/-- A body with its check byte is a checked one. -/
theorem checked_withCheck (body : List Byte) : Checked body (withCheck body) :=
  ⟨_, rfl, (byteSum_eq_zero _).mp (byteSum_withCheck body)⟩

/-! ### Small lemmas -/

@[simp] theorem raisedBy_nil (v : Vector NoticeFlag 11) : raisedBy [] v = v := rfl

@[simp] theorem raisedBy_cons (p : Fin 11 × Option Slot) (ps : List (Fin 11 × Option Slot)) (v : Vector NoticeFlag 11) :
    raisedBy (p :: ps) v = raisedBy ps (v.set p.1 { raised := true, latest := p.2 }) := rfl

theorem raisedBy_append (ps qs : List (Fin 11 × Option Slot)) (v : Vector NoticeFlag 11) :
    raisedBy (ps ++ qs) v = raisedBy qs (raisedBy ps v) := by simp [raisedBy, List.foldl_append]

theorem joinedBy_nil (s : State) : JoinedBy [] s s := by simp [JoinedBy]

/-- A slot that joins the Compute Queue does so as `enqueue` has it. -/
theorem joinedBy_enqueue (s : State) (i : Slot) : JoinedBy [i] s (s.enqueue i) := by
  unfold JoinedBy State.enqueue State.engineBegin
  simp only [List.cons_ne_nil, if_false]
  cases he : s.engine with
  | none => cases hq : s.computeQueue <;> simp
  | some j => simp

@[simp] theorem takingBack_empty (window : Nat) (r : Segment) : takingBack window r Accum.zero = r := by
  simp [takingBack, Accum.zero]

@[simp] theorem handBackJoins_same (i : Slot) (r : Segment) : handBackJoins i r r = [] := by
  simp only [handBackJoins]
  split
  · rename_i h
    exact absurd (h.1.symm.trans h.2) (by decide)
  · rfl

/-- A hand-back changes the accumulator and, from REGRADING, the phase. -/
theorem takingBack_keeps (window : Nat) (r : Segment) (acc : Accum) :
    takingBack window r acc = { r with acc := (takingBack window r acc).acc, phase := (takingBack window r acc).phase } := by
  unfold takingBack
  split <;> rfl

@[simp] theorem revisedFrom_same (r : Segment) : revisedFrom r r = r := by simp [revisedFrom]

theorem spanCounted_eq (e : Candidate) : spanCounted e = e.countFrame := rfl

/-- A re-check that concerns no entry leaves the lookup unit as it was. -/
theorem recheckedUnit_none (u : State) (x : LookupUnit) : recheckedUnit u (fun _ => false) x = x := by
  have hl : ∀ es : List Deferral, (es.map fun e => (Sum.inl e : Deferral ⊕ Answer)).filterMap Sum.getLeft? = es := by
    intro es
    induction es with
    | nil => rfl
    | cons e es ih => simpa using ih
  have hr : ∀ es : List Deferral, (es.map fun e => (Sum.inl e : Deferral ⊕ Answer)).filterMap Sum.getRight? = [] := by
    intro es
    induction es with
    | nil => rfl
    | cons e es ih => simp
  simp [recheckedUnit, hl, hr]

end Sys2Proof.Machine
end

