-- ==== Sys2Proof/Tests/Slice0.lean ====
section
/-! SUPPORT. The model's own tests: an ill-formed term for each check of WellFormed, the spec's worked figures, and for every statement with hypotheses a concrete state and operands that meet them. -/

namespace Sys2Proof.Tests

open Sys2Proof Sys2Proof.Machine

set_option Elab.async false

/-! ### WellFormed: each check refuses an ill-formed term -/

theorem test_wellFormed_byte : (Instr.start 256).wellFormed = false ∧ (Instr.start 255).wellFormed = true := by decide

theorem test_wellFormed_two : (Instr.setLamp 0 65536).wellFormed = false := by decide

theorem test_wellFormed_three : (Instr.cut 0 16777216).wellFormed = false := by decide

theorem test_wellFormed_four : (Instr.travel 0 4294967296).wellFormed = false := by decide

theorem test_wellFormed_signed :
    (Instr.setOffset 0 32768 0).wellFormed = false ∧ (Instr.setOffset 0 0 (-32769)).wellFormed = false := by decide

theorem test_wellFormed_channels : (Instr.setGrade 0 ⟨0, 0, 0⟩ ⟨0, 0, 65536⟩ 0).wellFormed = false := by decide

theorem test_wellFormed_layout :
    (Instr.setLayout (List.replicate 96 0)).wellFormed = false ∧ (Instr.setLayout [256]).wellFormed = false := by decide

theorem test_wellFormed_opening : (Instr.linkTransaction .control .resetPart []).wellFormed = false := by decide

theorem test_wellFormed_gateBytes : (Instr.malformedGateWord 0 (List.replicate 7 0)).wellFormed = false := by decide

/-! ### Sample values -/

/-- The field values of a SUPER8 profile. -/
def sampleFields : ProfileFields :=
  { gauge := 1, nominalPitch := 42300, pitchTolerance := 20, captureWindow := 20, minStrength := 3, coastLimit := 3,
    windowMark := 0, windowSize := 0, driftLimit := 40, densityThreshold := 100, blackMark := 0, targetBlack := 0,
    whiteMark := 0, targetWhite := 0, fade := 255, defaultLamp := 500, travelOffset := 150, lateralOffset := 0,
    cadence := 18 }

/-- The lowest value of every field. -/
def lowestFields : ProfileFields :=
  { gauge := 0, nominalPitch := 20000, pitchTolerance := 1, captureWindow := 5, minStrength := 0, coastLimit := 1,
    windowMark := 1, windowSize := 8, driftLimit := 5, densityThreshold := 1, blackMark := 1, targetBlack := 0,
    whiteMark := 1, targetWhite := 1, fade := 0, defaultLamp := 0, travelOffset := -4000, lateralOffset := -2000,
    cadence := 0 }

def sampleProfile : Profile :=
  { valid := true, gauge := .super8, nominalPitch := 42300, pitchTolerance := 20, captureWindow := 20, minStrength := 3,
    coastLimit := 3, windowSize := 12, driftLimit := 40, densityThreshold := 100, targetBlack := 256,
    targetWhite := 3840, fade := none, defaultLamp := 500, travelOffset := 150, lateralOffset := 0, cadence := 18 }

/-- An open SETTLED segment of lane 0 with its anchor at frame 0, position 1000. -/
def sampleSegment : Segment :=
  { Segment.fresh 0 1 with
    phase := .settled
    anchorPosition := 1000
    pitch := 42300
    perforations := 20
    luminance := some 900
    lamp := 500
    cadence := 18 }

/-- A segment in COMPUTING with the sums of the first example of section 6.5. -/
def computingSegment : Segment :=
  { sampleSegment with
    phase := .computing
    acc := { count := 6, black := ⟨1500, 2400, 3620⟩, white := ⟨19800, 16200, 12330⟩, mean := ⟨9000, 10200, 8100⟩ } }

/-- A tracker in a state, at frame `c` taken at `x`. -/
def trackerAt (state : TrackerState) (c : Nat) (x : Int) : Tracker :=
  { Tracker.reset with state := state, current := some c, lastPosition := some x, deadline := some (x + 5076) }

/-- A queued candidate at a frame. -/
def sampleCandidate (frame : Nat) : Candidate :=
  { frame := frame, position := 4000, kind := .pitchStep, state := .evaluating, span := 3, acc := Accum.zero
    evidence := { sensor := false, pitch := true, density := false, drift := false } }

/-- Lane 0 with a reel on profile 1 whose chain is slots 0, 1, ... with these records; the lookup link enabled and the link slots empty. -/
def scene (reel : ReelState) (tracker : Tracker) (queue : List Candidate) (records : List Segment) : State :=
  { State.reset with
    profiles := State.reset.profiles.set 1 sampleProfile
    lanes := State.reset.lanes.set 0
      { LaneState.reset with
        reel :=
          { state := reel
            load := some { tag := 7, gauge := .super8, profile := 1, cadence := 18 }
            chain := (List.finRange 160).take records.length }
        tracker := tracker
        queue := queue }
    segments := ((records.zip (List.finRange 160)).foldl (fun s p => s.putSeg p.2 (some p.1)) State.reset).segments
    freeList := (List.finRange 160).drop records.length
    lookup := { LookupUnit.reset with enabled := true }
    control := { Link.reset with slot := none }
    grading := { Link.reset with slot := none } }

/-- The RESET line is released in every sample state, as every statement that asks for it needs. -/
theorem scene_released (reel : ReelState) (tracker : Tracker) (queue : List Candidate) (records : List Segment) :
    (scene reel tracker queue records).resetHeld = false ∧ State.reset.resetHeld = false := ⟨rfl, rfl⟩

/-- A lane following film at frame 20, its open segment SETTLED. -/
def following : State := scene .scanning (trackerAt .locked 20 85600) [] [sampleSegment]

/-- The same with the engine at work on the open segment. -/
def computing : State := { scene .scanning (trackerAt .locked 20 85600) [] [computingSegment] with engine := some 0 }

/-- Two SETTLED segments, the second open from frame 10. -/
def twoSegments : State :=
  scene .scanning (trackerAt .locked 20 85600) []
    [{ sampleSegment with last := some 9 }, { sampleSegment with first := 10, anchorFrame := 10, anchorPosition := 43300 }]

/-- A CLOSING reel whose one segment the console still owns. -/
def heldClosing : State :=
  scene .closing { Tracker.reset with current := some 20, lastPosition := some 85600 } []
    [{ sampleSegment with last := some 20, life := .retiring, owner := .console }]

/-- An entry that waits. -/
def sampleEntry (reason : DeferReason) (remaining : Nat) : Deferral :=
  { tag := 5, lane := 0, frame := 21, reason := reason, remaining := remaining }

/-- A state with entries that wait. -/
def waiting (s : State) (entries : List Deferral) : State := { s with lookup := { s.lookup with deferred := entries } }

/-- EngineLaws from a check of every slot. -/
theorem engineLaws_of (s : State) (h1 : s.computeQueue.Nodup) (h2 : ∀ i, s.engine = some i → i ∉ s.computeQueue)
    (h3 : ∀ i, i ∈ s.computeQueue ∨ s.engine = some i → (s.seg i).isSome = true)
    (h4 : s.engine = none → s.computeQueue = [])
    (h5 : ∀ i, (s.seg i).all (fun r =>
      decide ((r.phase = .computing ↔ i ∈ s.computeQueue ∨ s.engine = some i) ∧
        (r.phase = .computing ∨ r.phase = .regrading → r.owner = .auto) ∧ (r.takePending = true → s.engine = some i))) = true) :
    EngineLaws s where
  distinct := h1
  apart := h2
  recorded := h3
  idle := h4
  computes := by
    intro i r hr
    have := h5 i
    rw [hr] at this
    simp only [Option.all_some, decide_eq_true_eq] at this
    exact this

/-! ### Worked figures of the spec -/

/-- Section 6.5, the first example: gains, lifts and settled luminance. -/
theorem test_computedGrade :
    let r := computingSegment.completed sampleProfile
    r.gain = ⟨1203, 1596, 2528⟩ ∧ r.lift = ⟨-38, -367, -1233⟩ ∧ r.luminance = some 1516 ∧ r.source = .computed := by
  decide +kernel

/-- Section 6.5: with the blue white sum 3,920 the grade is the default and the luminance the same. -/
theorem test_defaultGrade :
    let thin := { computingSegment with acc := { computingSegment.acc with white := ⟨19800, 16200, 3920⟩ } }
    let r := thin.completed sampleProfile
    r.gain = ⟨1024, 1024, 1024⟩ ∧ r.luminance = some 1516 ∧ r.source = .defaulted := by
  decide +kernel

/-- 00_scope.md, "Arithmetic": halves go away from zero, and up in R54. -/
theorem test_rounding :
    roundDiv 5 10 = 1 ∧ roundDiv (-5) 10 = -1 ∧ roundHalfUp (-5) 10 = 0 ∧ nextRevision 4294967295 = 1 := by decide

/-- R42: the four words of six bytes, most significant byte first. -/
theorem test_gateWords :
    gateWordOf [1, 9, 0, 0, 1, 2] = .perf 258 9 ∧ gateWordOf [2, 1, 0, 0, 1, 2] = .splice 258 1 ∧
    gateWordOf [3, 0, 0, 0, 1, 2] = .travel 258 ∧ gateWordOf [4, 0, 1, 0, 0, 0] = .runout 16777216 ∧
    gateWordOf [5, 0, 0, 0, 0, 0] = .malformed ∧ gateWordOf [1, 9, 0, 0, 1] = .malformed := by decide +kernel

/-- Whether a command answers exactly this next state. -/
def answers (c : Instr) (s t : State) : Bool :=
  match exec c s with
  | .next u => decide (u = t)
  | _ => false

/-- The RESET line held: a START and a PERF are ignored; after the release the START reaches its block (R178). -/
theorem test_resetHeld :
    (let held := { State.reset with resetHeld := true }
     answers (.resetLine true) State.reset held ∧ answers (.start 0) held held ∧ answers (.perf 0 1000 9) held held ∧
     answers (.resetLine false) held State.reset ∧
     answers (.start 0) State.reset (State.reset.refuse .control .noReel)) := by decide +kernel

/-! ### Laws of the sample states -/

theorem following_slotLaws : SlotLaws following :=
  ⟨by decide +kernel, by decide +kernel, by decide +kernel, by decide +kernel, by decide +kernel⟩

theorem following_engineLaws : EngineLaws following :=
  engineLaws_of _ (by decide +kernel) (by decide +kernel) (by decide +kernel) (by decide +kernel) (by decide +kernel)

theorem twoSegments_slotLaws : SlotLaws twoSegments :=
  ⟨by decide +kernel, by decide +kernel, by decide +kernel, by decide +kernel, by decide +kernel⟩

theorem twoSegments_engineLaws : EngineLaws twoSegments :=
  engineLaws_of _ (by decide +kernel) (by decide +kernel) (by decide +kernel) (by decide +kernel) (by decide +kernel)

theorem heldClosing_slotLaws : SlotLaws heldClosing :=
  ⟨by decide +kernel, by decide +kernel, by decide +kernel, by decide +kernel, by decide +kernel⟩

theorem following_lookupLaws : LookupLaws following :=
  ⟨by decide +kernel, by decide +kernel, by decide +kernel, by decide +kernel, by decide +kernel, by decide +kernel,
    by decide +kernel⟩

theorem following_recordLaws : RecordLaws following where
  segments := by
    have h : ∀ i, (following.seg i).all (fun r => decide (1 ≤ r.revision ∧ r.revision ≤ Config.revisionMax ∧
        r.perforations ≤ Config.countMax ∧ r.coasts ≤ Config.countMax ∧ r.acc.count ≤ Config.summariesMax)) = true := by
      decide +kernel
    intro i r hr
    have := h i
    rw [hr] at this
    simp only [Option.all_some, decide_eq_true_eq] at this
    exact this
  queues := by decide +kernel
  candidates := by
    intro l e he
    have : ∀ l, (following.lane l).queue = [] := by decide +kernel
    rw [this l] at he
    cases he
  leaseLength := by decide +kernel
  lease := by
    intro n hn
    have : following.lease = none := by decide +kernel
    rw [this] at hn
    cases hn

/-! ### Witnesses: for each statement with hypotheses, a state and operands that meet them, clause by clause -/

theorem witness_StepRunsTheFrontCommand : ({ following with pending := [.renew, .leaseTick] }).pending = .renew :: [.leaseTick] := rfl

theorem witness_EmptyQueueStep :
    let control := { following with control := { following.control with dispatched := some (.start 0) } }
    let grading := { following with grading := { following.grading with dispatched := some .renew } }
    (control.pending = [] ∧ control.control.dispatched = some (.start 0)) ∧
    (grading.pending = [] ∧ grading.control.dispatched = none ∧ grading.grading.dispatched = some .renew) ∧
    (following.pending = [] ∧ following.control.dispatched = none ∧ following.grading.dispatched = none) := by
  decide +kernel

/-- A part whose RESET line is held, and one whose line is released. -/
theorem witness_PartResetKeepsProfilesAndLayout :
    ({ State.reset with resetHeld := true }).resetHeld = true ∧ following.resetHeld = false ∧
    Instr.start 0 ≠ .powerOn ∧ ∀ held, Instr.start 0 ≠ .resetLine held := by decide +kernel

theorem witness_LinkDeliversReply :
    (following.link .control).ready = true ∧ carriesRequest [] = false ∧ carriesRequest [0, 0, 0, 0] = false ∧
    carriesRequest [255] = false := by decide +kernel

/-- START of lane 0, as the bytes of its frame (11.7): code 2, length 1, lane, check. -/
def startBytes : List Byte := [2, 1, 0, 253]

/-- RESET_DONE with the mark, and a BAD_VALUE reply (11.7). -/
theorem test_replyBytes :
    ({ Reply.resetDone with ignored := true } : Reply).bytes .msFirst = [135, 0, 0, 121] ∧
    ({ status := .refused, reason := .badValue, payload := [wire 1 5], ignored := false } : Reply).bytes .lsFirst =
      [2, 3, 1, 5, 245] ∧
    placed .msFirst 2 (-2) = [255, 254] ∧ placed .lsFirst 3 66051 = [3, 2, 1] := by decide +kernel

theorem witness_LinkDispatchesRequest :
    (State.reset.link .control).ready = true ∧ carriesRequest startBytes = true ∧
    checkRequest .control .msFirst startBytes = .dispatch (.start 0) ∧ (following.link .control).slot = none ∧
    (((State.reset.link .control).slot.getD Reply.noReply).bytes .msFirst).length ≤ startBytes.length := by
  decide +kernel

/-- A grading transaction that RESET_PART overtook: RESET_DONE takes the mark where it carried a request (R178). -/
theorem test_overtakenGrading :
    (match exec .resetPart following with
     | .next t =>
       (match exec (.linkTransaction .grading .resetPart [17, 1, 0, 238]) t with
        | .next v => decide (v.grading.slot = some { Reply.resetDone with ignored := true })
        | _ => false)
     | _ => false) = true := by decide +kernel

/-- The tests of R173 where they meet: cut short, a bad sum, a code of the other link, a wrong length, SET_LAYOUT's own length. -/
theorem test_requestChecks :
    [[2, 1], [2, 1, 0, 252], [17, 1, 0, 238], [2, 0, 254], startBytes, [10, 3, 2, 0, 0, 241], [10, 3, 1, 0, 0, 242],
      [32, 0, 224]].map (fun bytes => checkRequest .control .msFirst bytes) =
      [.badFrame, .badFrame, .notPermitted, .badFrame, .dispatch (.start 0), .dispatch (.setLayout [0, 0]), .badFrame,
        .notPermitted] ∧
    payloadLength 10 2 = 3 ∧ 16 ∈ codesOn .control ∧ 16 ∉ codesOn .grading ∧ 31 ∈ codesOn .grading ∧
    payloadLength 31 0 = 1 ∧ payloadLength 7 0 = 29 := by decide +kernel

theorem witness_LinkTurnsRequestsAway :
    (following.link .control).ready = true ∧ (following.link .control).slot = none ∧
    (carriesRequest [1] = true ∧ checkRequest .control .msFirst [1] = .badFrame) ∧
    (carriesRequest [17, 1, 0, 238] = true ∧ checkRequest .control .msFirst [17, 1, 0, 238] = .notPermitted) ∧
    ((State.reset.link .control).slot = some Reply.resetDone ∧ (State.reset.link .control).ready = true ∧
      [(1 : Byte)].length < (Reply.resetDone.bytes .msFirst).length) := by
  decide +kernel

theorem witness_BusyTransaction :
    (({ following with control := { following.control with dispatched := some (.start 0) } }).link .control).ready = false := by
  decide +kernel

theorem witness_RequestFramesReadBack :
    ((Instr.start 0).wellFormed = true ∧ requestLink (.start 0) = some .control ∧
      requestFrame .msFirst (.start 0) = some startBytes) ∧
    ((Instr.cut 159 16777215).wellFormed = true ∧ requestLink (.cut 159 16777215) = some .grading ∧
      (requestFrame .lsFirst (.cut 159 16777215)).isSome = true) ∧
    ((Instr.setLayout (List.replicate 95 255)).wellFormed = true ∧
      (requestFrame .msFirst (.setLayout (List.replicate 95 255))).isSome = true) := by
  decide +kernel

theorem witness_LookupFramesReadBack :
    (Instr.lookup 65535 3 1048575).wellFormed = true ∧
    lookupFrame .msFirst (.lookup 65535 3 1048575) = some [1, 255, 255, 3, 15, 255, 255, 241] := by
  decide +kernel

theorem witness_StartPauseResumeTaken :
    ((scene .loaded Tracker.reset [] []).lane 0).reel.state = .loaded ∧ (following.lane 0).reel.state = .scanning ∧
    (((scene .paused (trackerAt .paused 20 85600) [] [sampleSegment]).lane 0).reel.state = .paused ∧
      (scene .paused (trackerAt .paused 20 85600) [] [sampleSegment]).chain 0 ≠ []) ∧
    ((scene .paused Tracker.reset [] []).lane 0).reel.state = .paused ∧ (scene .paused Tracker.reset [] []).chain 0 = [] := by
  decide +kernel

theorem witness_ReelCommandsRefused :
    (State.reset.lane 3).reel.state = .empty ∧ (heldClosing.lane 0).reel.state = .closing ∧
    ((scene .loaded Tracker.reset [] []).lane 0).reel.state = .loaded ∧ (following.lane 0).reel.state = .scanning ∧
    ((scene .paused Tracker.reset [] []).lane 0).reel.state = .paused ∧
    ((scene .ended Tracker.reset [] []).lane 0).reel.state = .ended ∧ 4 ≤ 4 := by
  decide +kernel

theorem witness_UnloadClosesReel :
    SlotLaws following ∧ EngineLaws following ∧ (following.lane 0).reel.state = .scanning ∧
    following.openSlot 0 = some 0 ∧ (following.lane 0).tracker.current = some 20 :=
  ⟨following_slotLaws, following_engineLaws, by decide +kernel⟩

/-- UNLOAD of a reel whose open segment is REGRADING and awaited: it stops, its entry is answered, an AHEAD entry is CLOSED, and the reel retires (R144, R145, R152, R153, R158). -/
theorem test_unloadAnswers :
    let s := waiting (scene .scanning (trackerAt .locked 20 85600) [] [{ sampleSegment with phase := .regrading }])
      [{ sampleEntry (.segment 0) 3 with frame := 20 }, sampleEntry .ahead 3]
    (match exec (.unload 0) s with
     | .next t => decide (t.lookup.answers.map Answer.status = [.settled, .closed] ∧ t.chain 0 = [] ∧
         t.freeList = (List.finRange 160).drop 1 ++ [0] ∧ (t.lane 0).reel.state = .empty)
     | _ => false) = true := by decide +kernel

theorem witness_LaneResetClearsLane : SlotLaws following ∧ EngineLaws following := ⟨following_slotLaws, following_engineLaws⟩

/-- The ranges that the statement on SET_PROFILE names. -/
def inRanges (f : ProfileFields) : Bool :=
  let size := if f.windowMark = 1 then f.windowSize else 12
  let black := if f.blackMark = 1 then f.targetBlack else 256
  let white := if f.whiteMark = 1 then f.targetWhite else 3840
  decide (20000 ≤ f.nominalPitch ∧ f.nominalPitch ≤ 80000) && decide (1 ≤ f.pitchTolerance ∧ f.pitchTolerance ≤ 100) &&
  decide (5 ≤ f.captureWindow ∧ f.captureWindow ≤ 45) && decide (f.minStrength ≤ 15) &&
  decide (1 ≤ f.coastLimit ∧ f.coastLimit ≤ 8) && decide (f.windowMark ≤ 1) && decide (8 ≤ size ∧ size ≤ 32) &&
  decide (5 ≤ f.driftLimit ∧ f.driftLimit ≤ 500) && decide (1 ≤ f.densityThreshold ∧ f.densityThreshold ≤ 1023) &&
  decide (f.blackMark ≤ 1) && decide (black ≤ 4095) && decide (f.whiteMark ≤ 1) && decide (black < white ∧ white ≤ 4095) &&
  decide (f.fade ≤ 15 ∨ f.fade = 255) && decide (f.defaultLamp ≤ 1023) &&
  decide (-4000 ≤ f.travelOffset ∧ f.travelOffset ≤ 4000) && decide (-2000 ≤ f.lateralOffset ∧ f.lateralOffset ≤ 2000) &&
  decide (f.cadence = 0 ∨ f.cadence = 16 ∨ f.cadence = 18 ∨ f.cadence = 24)

/-- The lower end of every range, and the defaults of fields 7, 10 and 11. -/
theorem witness_SetProfileTaken :
    following.inUse 0 = 0 ∧ (lowestFields.gauge = Gauge.mm8.code ∧ inRanges lowestFields = true) ∧
    (sampleFields.gauge = Gauge.super8.code ∧ inRanges sampleFields = true) := by
  decide +kernel

/-- Every field out of range in turn with the lower ones in range, at the ends of the ranges; target black 4000 with target white defaulted is out in field 11 (R37). -/
theorem witness_SetProfileRefused :
    16 ≤ 16 ∧ following.inUse 1 ≠ 0 ∧ following.inUse 0 = 0 ∧
    ([{ sampleFields with gauge := 4 }, { sampleFields with nominalPitch := 19999 },
      { sampleFields with pitchTolerance := 101 }, { sampleFields with captureWindow := 4 },
      { sampleFields with minStrength := 16 }, { sampleFields with coastLimit := 9 },
      { sampleFields with windowMark := 1, windowSize := 7 }, { sampleFields with driftLimit := 501 },
      { sampleFields with densityThreshold := 0 }, { sampleFields with blackMark := 1, targetBlack := 4096 },
      { sampleFields with blackMark := 1, targetBlack := 4000 }, { sampleFields with fade := 16 },
      { sampleFields with defaultLamp := 1024 }, { sampleFields with travelOffset := 4001 },
      { sampleFields with lateralOffset := -2001 }, { sampleFields with cadence := 17 }].map fun f =>
        match checkProfile f with
        | .ok _ => 0
        | .error n => n) = [1, 2, 3, 4, 5, 6, 7, 8, 9, 10, 11, 12, 13, 14, 15, 16] := by
  decide +kernel

theorem witness_InvalidateProfile :
    following.inUse 1 ≠ 0 ∧ following.inUse 0 = 0 ∧ (following.profile 0).valid = false ∧
    (following.lane 1).reel.state = .empty ∧
    (match exec (.setProfile 0 sampleFields) following with | .next t => (t.profile 0).valid | _ => false) = true := by
  decide +kernel

theorem witness_ReadProfile :
    (match exec (.setProfile 0 sampleFields) following with
     | .next t => decide ({ t.profile 0 with valid := (following.profile 0).valid } ≠ following.profile 0)
     | _ => false) = true := by
  decide +kernel

theorem witness_SetLayoutTestsAndEffect :
    following.lookup.enabled = true ∧ State.reset.lookup.enabled = false ∧ ([] : List Nat).length < 1 ∧
    12 < (List.replicate 13 0).length ∧ ([16, 17] = [16] ++ 17 :: [] ∧ (∀ n ∈ [16], n ≤ 16) ∧ 16 < 17) ∧
    [0, 16].map FieldCode.ofCode = [FieldCode.none, FieldCode.flags].map some := by
  decide +kernel

/-- A CLOSING reel whose one segment only a deferral holds. -/
def awaitedClosing : State :=
  waiting
    (scene .closing { Tracker.reset with current := some 20, lastPosition := some 85600 } []
      [{ sampleSegment with last := some 20, life := .retiring }])
    [sampleEntry (.segment 0) 3]

theorem witness_SetLookupLinkTable :
    byteOrderOf 0 = some .msFirst ∧ byteOrderOf 1 = some .lsFirst ∧ byteOrderOf 2 = none ∧
    State.reset.lookup.enabled = false ∧
    following.lookup.enabled = true ∧ ByteOrder.msFirst = following.lookup.order ∧ ByteOrder.lsFirst ≠ following.lookup.order ∧
    (awaitedClosing.lookup.enabled = true ∧ (awaitedClosing.lane 0).reel.state = .closing ∧
      awaitedClosing.chain 0 = [0] ∧
      (awaitedClosing.lookup.deferred.any fun e => decide (e.reason = .segment 0)) = true ∧
      (awaitedClosing.seg 0).map Segment.phase = some .settled) := by
  decide +kernel

theorem witness_SetLookupLinkTable_laws : SlotLaws awaitedClosing :=
  ⟨by decide +kernel, by decide +kernel, by decide +kernel, by decide +kernel, by decide +kernel⟩

theorem witness_SetPolicyTaken :
    Route.ofCode 2 = some .both ∧ Route.ofCode 0 = some .control ∧ 16 ≤ 16 ∧ 4 ≠ 255 ∧
    ((10 < 11 ∧ 3 < 4) ∧ (11 ≤ 15 ∧ 15 < 16) ∧ 2 ≤ 2 ∧ 3 ≤ 3) := by
  decide

theorem witness_SetTimersTestsAndEffect : TickSelect.ofCode 2 = some .half ∧ 3 ≤ 3 ∧ 255 < 256 := by decide

theorem witness_ClearNoticeByMask : 4 ≠ 255 ∧ 65536 ≤ 65536 ∧ 65535 < 65536 := by decide

/-- A segment of slot 0 in lane 0 as given. -/
def segmentState (r : Segment) : State := scene .scanning (trackerAt .locked 20 85600) [] [r]

theorem witness_TakeByPhase :
    (segmentState { sampleSegment with life := .retiring }).seg 0 = some { sampleSegment with life := .retiring } ∧
    (segmentState { sampleSegment with owner := .console }).seg 0 = some { sampleSegment with owner := .console } ∧
    following.seg 0 = some sampleSegment ∧
    (segmentState { sampleSegment with phase := .measuring }).seg 0 = some { sampleSegment with phase := .measuring } ∧
    (segmentState { sampleSegment with phase := .regrading }).seg 0 = some { sampleSegment with phase := .regrading } ∧
    (computing.seg 0 = some computingSegment ∧ computing.engine = some 0) ∧
    ((segmentState computingSegment).seg 0 = some computingSegment ∧ (segmentState computingSegment).engine ≠ some 0) := by
  decide +kernel

theorem witness_ReleaseHandsBack :
    following.seg 0 = some sampleSegment ∧
    (segmentState { sampleSegment with owner := .console }).seg 0 = some { sampleSegment with owner := .console } ∧
    (heldClosing.seg 0 = some { sampleSegment with last := some 20, life := .retiring, owner := .console } ∧
      (∀ e ∈ heldClosing.lookup.deferred, e.reason ≠ .segment 0) ∧ (heldClosing.lane 0).reel.state = .closing ∧
      heldClosing.chain 0 = [0]) := by
  decide +kernel

theorem witness_ReleaseHandsBack_laws : SlotLaws heldClosing := heldClosing_slotLaws

theorem witness_ConsoleWritesTaken :
    (segmentState { sampleSegment with owner := .console }).seg 0 = some { sampleSegment with owner := .console } ∧
    (heldClosing.seg 0).map Segment.owner = some .console ∧ following.seg 0 = some sampleSegment ∧
    ([checkGrade ⟨2048, 0, 0⟩ ⟨256, 256, 256⟩ 0, checkGrade ⟨2047, -2049, 0⟩ ⟨256, 256, 256⟩ 0,
      checkGrade ⟨2047, -2048, 2048⟩ ⟨256, 256, 256⟩ 0, checkGrade ⟨0, 0, 0⟩ ⟨255, 256, 256⟩ 0,
      checkGrade ⟨0, 0, 0⟩ ⟨256, 4097, 256⟩ 0, checkGrade ⟨0, 0, 0⟩ ⟨4096, 4096, 4097⟩ 0,
      checkGrade ⟨0, 0, 0⟩ ⟨4096, 256, 256⟩ 16].map fun x =>
        match x with
        | .ok _ => 0
        | .error n => n) = [1, 2, 3, 4, 5, 6, 7] := by
  decide +kernel

theorem witness_CutSplitsSegment :
    (following.seg 0 = some sampleSegment ∧ sampleSegment.last = none ∧ (following.lane 0).tracker.current = some 20) ∧
    ((segmentState computingSegment).seg 0 = some computingSegment ∧ computingSegment.phase ≠ .settled) ∧
    (sampleSegment.first < 1 ∧ 20 ≤ 20 ∧ following.freeList = 1 :: (List.finRange 160).drop 2 ∧
      (following.chain 0).length < 64 ∧ (following.lane 0).reel.load.isSome = true) ∧
    ({ following with freeList := [] }).freeList = [] := by
  decide +kernel

theorem witness_JoinAbsorbsSuccessor :
    twoSegments.seg 0 = some { sampleSegment with last := some 9 } ∧ twoSegments.chain 0 = [] ++ 0 :: 1 :: [] ∧
    twoSegments.seg 1 = some { sampleSegment with first := 10, anchorFrame := 10, anchorPosition := 43300 } ∧
    following.chain 0 = [] ++ [0] := by
  decide +kernel

theorem witness_JoinAbsorbsSuccessor_laws : SlotLaws twoSegments ∧ EngineLaws twoSegments :=
  ⟨twoSegments_slotLaws, twoSegments_engineLaws⟩

theorem witness_RegradeTestsAndEffect : following.seg 0 = some sampleSegment ∧ following.seg 1 = none ∧ 160 ≤ 160 := by
  decide +kernel

theorem witness_RequestsOnFreeSlotsRefused : following.seg 1 = none ∧ 160 ≤ 160 ∧ 160 ≠ 255 ∧ 160 ≤ 255 := by decide +kernel

theorem witness_HoldsDropped :
    EngineLaws { following with lease := some 1 } ∧ following.seg 0 = some sampleSegment ∧
    (segmentState { sampleSegment with owner := .console }).seg 0 = some { sampleSegment with owner := .console } :=
  ⟨⟨following_engineLaws.distinct, following_engineLaws.apart, following_engineLaws.recorded, following_engineLaws.idle,
    following_engineLaws.computes⟩, by decide +kernel, by decide +kernel⟩

/-- RETIRING: one that only the console holds, one awaited by an entry too, and one with its take pending in the engine. -/
theorem witness_HoldsDropped_retiring :
    SlotLaws heldClosing ∧ heldClosing.seg 0 = some { sampleSegment with last := some 20, life := .retiring, owner := .console } ∧
    EngineLaws heldClosing ∧
    (waiting heldClosing [sampleEntry (.segment 0) 3]).seg 0 =
      some { sampleSegment with last := some 20, life := .retiring, owner := .console } :=
  ⟨heldClosing_slotLaws, by decide +kernel,
   engineLaws_of _ (by decide +kernel) (by decide +kernel) (by decide +kernel) (by decide +kernel) (by decide +kernel),
   by decide +kernel⟩

/-- R130, R131, R156-R158: the one segment of a closing freed by each of the three, and kept where an entry awaits it. -/
theorem test_holdsDroppedRetiring :
    (∀ c ∈ [Instr.forceRelease 0, .forceRelease 255, .leaseTick],
      (match exec c { heldClosing with lease := some 1 } with
       | .next t => decide (t.seg 0 = none ∧ t.freeList.getLast? = some 0 ∧ (t.lane 0).reel.state = .empty ∧
           (t.lane 0).notices[10].raised = true)
       | _ => false) = true) ∧
    (match exec (.forceRelease 255) (waiting heldClosing [sampleEntry (.segment 0) 3]) with
     | .next t => decide ((t.seg 0).map Segment.owner = some .auto ∧ (t.lane 0).reel.state = .closing)
     | _ => false) = true := by decide +kernel

theorem witness_LeaseTickAndRenew :
    ({ following with lease := some 1 }).lease = some 1 ∧ ({ following with lease := some 2 }).lease = some 2 ∧
    following.lease = none ∧
    ({ following with grading := { following.grading with dispatched := some .renew } }).grading.dispatched = some .renew ∧
    following.grading.dispatched ≠ some .renew := by
  decide +kernel

/-- R129: with the lease at 1 the tick is the expiry, in the one step. -/
theorem test_lastTickIsExpiry :
    let s := { segmentState { sampleSegment with owner := .console } with lease := some 1 }
    (match exec .leaseTick s with
     | .next t => decide ((t.seg 0).map Segment.owner = some .auto ∧ t.lease = none ∧ t.partNotices[2].raised = true)
     | _ => false) = true := by decide +kernel

theorem witness_ListReel : 4 ≤ 4 ∧ (∀ i ∈ twoSegments.chain 0, twoSegments.seg i ≠ none) ∧ (twoSegments.chain 0).length ≤ 2 := by
  decide +kernel

/-- Lane 0 following film with a candidate queued at frame 18. -/
def evaluating : State := scene .scanning (trackerAt .locked 20 85600) [sampleCandidate 18] [sampleSegment]

/-- A lane with a candidate, an EMPTY lane, a FREE slot, and the ends of the ranges. -/
theorem witness_ReadsReportAndChangeNothing :
    (evaluating.lane 0).queue = [sampleCandidate 18] ∧ (evaluating.lane 0).reel.load.isSome = true ∧
    (evaluating.lane 1).reel.load = none ∧ (evaluating.lane 1).queue = [] ∧
    evaluating.seg 0 = some sampleSegment ∧ evaluating.seg 1 = none ∧ 4 ≤ 4 ∧ 160 ≤ 160 := by
  decide +kernel

theorem witness_ClassificationOrder :
    (State.reset.lane 0).reel.state = .empty ∧ (heldClosing.lane 0).reel.state = .closing ∧
    (let ended := scene .ended (trackerAt .ended 20 85600) [] [{ sampleSegment with last := some 20 }]
     (ended.lane 0).reel.state = .ended ∧ ended.find 0 21 = .past) ∧
    (∀ c, (following.lane 0).tracker.current = some c → c < 21) ∧
    (evaluating.find 0 18 = .found 0 sampleSegment ∧ (evaluating.lane 0).queue = [sampleCandidate 18]) ∧
    following.find 0 20 = .found 0 sampleSegment ∧ computing.find 0 20 = .found 0 computingSegment := by
  refine ⟨by decide +kernel, by decide +kernel, by decide +kernel, ?_, by decide +kernel, by decide +kernel, by decide +kernel⟩
  intro c hc
  have : (following.lane 0).tracker.current = some 20 := by decide +kernel
  rw [this] at hc
  cases hc
  decide

/-- An answer as it waits. -/
def sampleAnswer : Answer := { tag := 5, status := .noReel, lane := 1, frame := 5, slots := List.replicate 12 0 }

theorem witness_LookupTestsAndEffect :
    State.reset.lookup.enabled = false ∧ (following.lookup.enabled = true ∧ 1048575 < 1048576) ∧
    (let full := { following with lookup := { following.lookup with answers := List.replicate 16 sampleAnswer } }
     full.lookup.enabled = true ∧ 16 ≤ full.lookup.answers.length + full.lookup.deferred.length) ∧
    following.lookup.answers.length + following.lookup.deferred.length < 16 ∧ following.classify 1 5 = .plain .noReel ∧
    following.classify 0 20 = .source 0 sampleSegment ∧ following.classify 0 21 = .defer .ahead ∧
    12 ≤ (waiting following (List.replicate 12 (sampleEntry .ahead 3))).lookup.deferred.length := by
  decide +kernel

theorem witness_LookupTransactionDelivers :
    carriesRequest (List.replicate 34 0) = false ∧ 10 + 2 * sampleAnswer.slots.length ≤ (List.replicate 34 (0 : Byte)).length ∧
    ({ following with lookup := { following.lookup with answers := [sampleAnswer] } }).lookup.answers = [sampleAnswer] ∧
    following.lookup.answers = [] := by
  decide +kernel

/-- Each opening does as R147, R150 and R178 give: a head shifted out whole leaves the queue only where it went out. -/
theorem test_lookupOpenings :
    let s := { following with lookup := { following.lookup with answers := [sampleAnswer] } }
    ([LookupOpening.plain, .otherOrder, .emptyMarker, .overtaken, .resetLine].map fun o =>
      match exec (.lookupLinkTransaction o (List.replicate 34 0)) s with
      | .next t => t.lookup.answers.length
      | _ => 9) = [0, 1, 1, 1, 1] := by decide +kernel

theorem witness_LookupTransactionTakesRequest :
    carriesRequest [1, 255, 255, 3, 15, 255, 255, 241] = true ∧
    lookupRequest .msFirst [1, 255, 255, 3, 15, 255, 255, 241] = some (.lookup 65535 3 1048575) ∧
    flipOrder following.lookup.order = .lsFirst ∧
    lookupRequest .lsFirst [1, 255, 255, 3, 255, 255, 15, 241] = some (.lookup 65535 3 1048575) ∧
    (carriesRequest [3] = true ∧ lookupRequest .msFirst [3] = none) ∧
    lookupRequest .msFirst [1, 255, 255, 3, 15, 255, 255] = none ∧
    lookupRequest .msFirst [1, 255, 255, 3, 15, 255, 255, 240] = none ∧
    (lookupRequest .msFirst (2 :: List.replicate 22 0 ++ [254])).isSome = true ∧
    lookupRequest .msFirst (2 :: List.replicate 22 0) = none := by
  decide +kernel

/-- The header of an answer (R148): tag 0x0105, SETTLED, lane 3, frame 0x00A0B0, one slot, check. -/
theorem test_answerHeader :
    ({ tag := 261, status := .settled, lane := 3, frame := 41136, slots := [515] } : Answer).bytes .msFirst =
      [1, 5, 1, 3, 0, 160, 176, 1, 2, 3, 160] ∧
    ({ tag := 261, status := .settled, lane := 3, frame := 41136, slots := [515] } : Answer).bytes .lsFirst =
      [5, 1, 1, 3, 176, 160, 0, 1, 3, 2, 160] := by decide +kernel

theorem witness_SummaryRefused :
    State.reset.lookup.enabled = false ∧ following.lookup.enabled = true ∧ statisticsOk ⟨4095, 4095, 4095⟩ = true ∧
    (∃ v ∈ [0, 0, 0, 0, 0, 0, 0, 4096, 0], 4095 < v) ∧
    (following.lane 1).reel.state = .empty ∧ ((scene .ended Tracker.reset [] []).lane 0).reel.state = .ended ∧
    (following.lane 0).tracker.current = some 20 ∧
    (let bare := scene .scanning (trackerAt .locked 20 85600) [] []
     (bare.lane 0).tracker.current = some 20 ∧ bare.find 0 20 = .absent) := by
  decide +kernel

/-- One clause at a time: one candidate, two, a segment in each phase, a full accumulator, an ENDED lane, and a summary far from the luminance 900. -/
theorem witness_SummaryAdded :
    (evaluating.find 0 18 = .found 0 sampleSegment ∧ (evaluating.lane 0).queue = [sampleCandidate 18] ∧
      (sampleCandidate 18).frame ≤ 18 ∧ (sampleCandidate 18).acc.count < 64) ∧
    (let two := scene .scanning (trackerAt .locked 20 85600) [sampleCandidate 8, sampleCandidate 18] [sampleSegment]
     (two.lane 0).queue = [sampleCandidate 8, sampleCandidate 18] ∧ two.find 0 17 = .found 0 sampleSegment ∧
     two.find 0 7 = .found 0 sampleSegment) ∧
    (let measuring : Segment := { sampleSegment with phase := .measuring, luminance := none }
     (segmentState measuring).find 0 20 = .found 0 measuring ∧ ((segmentState measuring).lane 0).queue = [] ∧
     (segmentState measuring).openSeg 0 = some (0, measuring)) ∧
    (let regrading : Segment := { sampleSegment with phase := .regrading, acc := { Accum.zero with count := 11 } }
     (segmentState regrading).find 0 20 = .found 0 regrading ∧ (segmentState regrading).engine = none ∧
     (segmentState regrading).computeQueue = [] ∧
     ((segmentState regrading).profile regrading.profile).windowSize ≤ regrading.acc.count + 1) ∧
    (let full : Segment := { sampleSegment with phase := .measuring, acc := { Accum.zero with count := 64 } }
     (segmentState full).find 0 20 = .found 0 full ∧ 64 ≤ full.acc.count) ∧
    (let closed : Segment := { sampleSegment with last := some 20 }
     let ended := scene .ended (trackerAt .ended 20 85600) [] [closed]
     (ended.lane 0).reel.state = .ended ∧ ended.find 0 20 = .found 0 closed) ∧
    (computing.find 0 20 = .found 0 computingSegment ∧ computing.openSeg 0 = some (0, computingSegment)) ∧
    (following.openSeg 0 = some (0, sampleSegment) ∧ sampleSegment.luminance = some 900 ∧ sampleSegment.first < 18 ∧
      (following.laneProfile 0).densityThreshold < ((((3003 / 3 : Nat) : Int) - 900).natAbs)) := by
  decide +kernel

/-- Lane 0 threading with perforations held. -/
def threading (held : List Int) : State :=
  scene .scanning { Tracker.reset with state := .threading, relock := held } [] []

theorem witness_ThreadTest :
    (((threading []).lane 0).reel.state = .scanning ∧ ((threading []).lane 0).tracker.state = .threading ∧
      ((threading []).laneProfile 0).minStrength ≤ 3 % 16) ∧
    consistent 42300 20 1000 5230 = true ∧ consistent 42300 20 1000 5315 = false ∧ consistent 42300 20 1000 5314 = true ∧
    (0 < 42300 ∧ 20 < 1000) := by
  decide +kernel

theorem witness_FirstLock :
    let s := threading [1000, 5230]
    (s.lane 0).reel.load.isSome = true ∧ s.chain 0 = [] ∧ (s.lane 0).tracker.relock = [1000, 5230] ∧
    consistent (s.laneProfile 0).nominalPitch (s.laneProfile 0).pitchTolerance 5230 9460 = true ∧
    s.freeList = 0 :: (List.finRange 160).drop 1 ∧ ({ s with freeList := [] }).freeList = [] := by
  decide +kernel

theorem witness_PerforationAcceptance :
    (following.lane 0).reel.state = .scanning ∧ (following.lane 0).tracker.state = .locked ∧
    (following.laneProfile 0).minStrength ≤ 15 % 16 ∧ following.openSeg 0 = some (0, sampleSegment) ∧
    (following.lane 0).tracker.current = some 20 ∧ (following.lane 0).tracker.lastPosition = some 85600 ∧
    (((89915 : Int) - (85600 + roundDiv 42300 10)).natAbs ≤
      (roundDiv (42300 * (following.laneProfile 0).captureWindow : Nat) 1000).natAbs) ∧
    ((roundDiv (42300 * (following.laneProfile 0).captureWindow : Nat) 1000).natAbs <
      ((90677 : Int) - (85600 + roundDiv 42300 10)).natAbs) ∧
    ((scene .scanning (trackerAt .locked 1048575 85600) [] [sampleSegment]).lane 0).tracker.current = some 1048575 := by
  decide +kernel

/-- An ARMED splice for the frame after frame 20. -/
def armedCandidate : Candidate :=
  { frame := 21, position := 89000, kind := .spliceTape, state := .armed, span := 0, acc := Accum.zero
    evidence := { sensor := true, pitch := false, density := false, drift := false } }

/-- Lane 0 following film at frame 20 with these candidates queued. -/
def queued (queue : List Candidate) : State := scene .scanning (trackerAt .locked 20 85600) queue [sampleSegment]

theorem queued_slotLaws : SlotLaws (queued [armedCandidate]) ∧ SlotLaws (queued [sampleCandidate 12, armedCandidate]) :=
  ⟨⟨by decide +kernel, by decide +kernel, by decide +kernel, by decide +kernel, by decide +kernel⟩,
   ⟨by decide +kernel, by decide +kernel, by decide +kernel, by decide +kernel, by decide +kernel⟩⟩

/-- One clause of FrameResolved and Watched at a time: an ARMED head at the next frame, before it an EVALUATING one, an EVALUATING head that reaches span 8 and one that does not; a segment one perforation below the window; a first and a second off-pitch interval, and a drift run of 2. -/
theorem witness_FrameTaken :
    (((queued [armedCandidate]).lane 0).queue = armedCandidate :: [] ∧ armedCandidate.state = .armed ∧
      armedCandidate.frame = 20 + 1) ∧
    (((queued [sampleCandidate 12, armedCandidate]).lane 0).queue = [sampleCandidate 12, armedCandidate] ∧
      (sampleCandidate 12).state = .evaluating) ∧
    (8 ≤ (spanCounted { sampleCandidate 13 with span := 7 }).span ∧ (spanCounted (sampleCandidate 18)).span < 8) ∧
    (countingSettles sampleProfile 1 { sampleSegment with phase := .measuring, perforations := 11 } = true ∧
      countingSettles sampleProfile 1 { sampleSegment with phase := .measuring, perforations := 10 } = false) ∧
    (42300 * 20 < (10 * ((89915 : Int) - 85600) - (42300 : Int)).natAbs * 1000 ∧
      40 < ((89915 : Int) - (1000 + roundDiv (((21 : Nat) : Int) * 42300) 10)).natAbs) := by
  decide +kernel

/-- A PERF with an ARMED head fires it: the open segment is closed at frame 20 and slot 1 opened at frame 21 (R84, R90, R91). -/
theorem test_armedFires :
    (match exec (.perf 0 89915 9) (queued [armedCandidate]) with
     | .next t => decide (t.chain 0 = [0, 1] ∧ (t.lane 0).queue = [] ∧
         t.seg 0 = some { sampleSegment with last := some 20, revision := 2 } ∧
         (t.seg 1).map Segment.anchorPosition = some 89915 ∧ (t.lane 0).notices[6] = { raised := true, latest := some 1 })
     | _ => false) = true := by decide +kernel

/-- A LOST lane at frame 20 with two perforations held, the first `missing` frames past the last one taken. -/
def lostAt (missing : Int) : State :=
  scene .scanning
    { trackerAt .lost 20 85600 with relock := [85600 + 4230 * (missing + 1), 85600 + 4230 * (missing + 2)] } [] [sampleSegment]

/-- The relock clauses: the threshold 85600 + 2115, no frame missing, and 4 missing, with a slot free. -/
theorem witness_PerforationAcceptance_relock :
    ((lostAt 4).lane 0).tracker.state = .lost ∧ (lostAt 4).openSeg 0 = some (0, sampleSegment) ∧
    (87715 : Int) ≤ 85600 + roundDiv 42300 20 ∧ 85600 + roundDiv 42300 20 < (87716 : Int) ∧
    consistent 42300 20 (85600 + 4230 * 6) (85600 + 4230 * 7) = true ∧
    (20 * ((85600 + 4230 * 5 : Int) - 85600) + 42300) / (2 * 42300) = 5 ∧
    (20 * ((85600 + 4230 : Int) - 85600) + 42300) / (2 * 42300) = 1 ∧
    (lostAt 4).freeList = 1 :: (List.finRange 160).drop 2 ∧ (lostAt 4).seg 1 = none ∧ ((lostAt 4).chain 0).length < 64 := by
  decide +kernel

/-- With 4 frames missing the lane relocks at frame 27 and a GAP segment opens at frame 25 (R54, R56). -/
theorem test_gapRelock :
    (match exec (.perf 0 (85600 + 4230 * 7) 9) (lostAt 4) with
     | .next t => decide ((t.lane 0).tracker.current = some 27 ∧ t.chain 0 = [0, 1] ∧
         (t.seg 1).map Segment.first = some 25 ∧ (t.seg 0).bind Segment.last = some 24)
     | _ => false) = true := by decide +kernel

/-- An empty queue; a head far behind, one within the merge distance, and two entries; the last frame of the range; and a LOST lane. -/
theorem witness_SpliceArmsNextFrame :
    (((queued [sampleCandidate 12]).lane 0).queue = [sampleCandidate 12] ∧ (sampleCandidate 12).frame + 8 < 20 + 1) ∧
    (((queued [sampleCandidate 13]).lane 0).queue = [] ++ [sampleCandidate 13] ∧ 20 + 1 ≤ (sampleCandidate 13).frame + 8) ∧
    ((queued [sampleCandidate 12, armedCandidate]).lane 0).queue = [sampleCandidate 12] ++ [armedCandidate] ∧
    (((lostAt 4).lane 0).tracker.state ∈ [TrackerState.threading, .lost, .relocking] ∧
      ((lostAt 4).lane 0).reel.state = .scanning) ∧
    following.openSeg 0 = some (0, sampleSegment) ∧ (following.lane 0).queue = [] ∧ sampleSegment.first ≤ 20 ∧
    (((scene .scanning (trackerAt .locked 1048575 85600) [] [sampleSegment]).lane 0).tracker.current = some 1048575) := by
  decide +kernel

theorem witness_TravelPastDeadline :
    (let s := scene .scanning { trackerAt .coasting 20 85600 with coastRun := 2 } [] [sampleSegment]
     (s.lane 0).tracker.state = .coasting ∧ s.openSeg 0 = some (0, sampleSegment) ∧
     (s.lane 0).tracker.deadline = some 90676 ∧ (s.lane 0).tracker.coastRun + 1 = (s.laneProfile 0).coastLimit ∧
     (85600 : Int) + roundDiv 42300 10 ≤ 2147483647) ∧
    ((following.lane 0).tracker.deadline = some 90676 ∧
      (following.lane 0).tracker.coastRun + 1 < (following.laneProfile 0).coastLimit ∧
      (90676 : Int) < 85600 + 4230 + roundDiv (42300 * 120) 1000) ∧
    (let last := scene .scanning (trackerAt .locked 1048575 85600) [] [sampleSegment]
     (last.lane 0).tracker.current = some 1048575 ∧ 1 ≤ (last.laneProfile 0).coastLimit) := by
  decide +kernel

theorem witness_RunoutEndsLane :
    (following.lane 0).reel.state = .scanning ∧ (following.lane 0).tracker.state = .locked ∧
    following.openSeg 0 = some (0, sampleSegment) ∧ (following.lane 0).tracker.current = some 20 ∧
    (let threading := scene .scanning (trackerAt .threading 20 85600) [] []
     threading.openSeg 0 = none ∧ (threading.lane 0).tracker.state = .threading) ∧ SlotLaws following :=
  ⟨by decide +kernel, by decide +kernel, by decide +kernel, by decide +kernel, by decide +kernel, following_slotLaws⟩

/-- R144: at the end an AHEAD entry is answered OUT_OF_RANGE and a CANDIDATE one from its segment, in acceptance order. -/
theorem test_endOfReelAnswers :
    (match exec (.runout 0 90000) (waiting evaluating [{ sampleEntry .candidate 3 with frame := 19 }, sampleEntry .ahead 2]) with
     | .next t => decide (t.lookup.deferred = [] ∧ t.lookup.answers.map Answer.status = [.settled, .outOfRange] ∧
         (t.lane 0).notices[3] = { raised := true, latest := some 0 })
     | _ => false) = true := by decide +kernel

theorem witness_GateWordChecks :
    (State.reset.lane 0).reel.state ≠ .scanning ∧ (following.lane 0).tracker.state = .locked ∧
    gateWordOf [1, 2, 3] = .malformed ∧ 2147483647 < 2147483648 ∧ 18 % 16 < (following.laneProfile 0).minStrength := by
  decide +kernel

/-- A gate word taken, and one ignored, answer a next state from a lawful one. -/
theorem witness_GateWordFrame :
    SlotLaws following ∧ (∃ t, exec (.perf 0 89830 9) following = .next t) ∧ ∃ t, exec (.perf 1 89830 9) following = .next t :=
  ⟨following_slotLaws, ⟨_, rfl⟩, ⟨_, rfl⟩⟩

/-- A CLOSING reel whose one segment stands in the engine, awaited by an entry for frame 20. -/
def closingInEngine : State :=
  { waiting
      (scene .closing { Tracker.reset with current := some 20, lastPosition := some 85600 } []
        [{ computingSegment with last := some 20, life := .retiring }])
      [{ sampleEntry (.segment 0) 3 with frame := 20 }] with
    engine := some 0 }

theorem witness_GradeCompletion :
    computing.engine = some 0 ∧ computing.seg 0 = some computingSegment ∧ computingSegment.life = .live ∧
    (closingInEngine.engine = some 0 ∧
      closingInEngine.seg 0 = some { computingSegment with last := some 20, life := .retiring } ∧
      closingInEngine.find 0 20 = .found 0 { computingSegment with last := some 20, life := .retiring }) ∧
    (let s := waiting computing [{ sampleEntry (.segment 0) 3 with frame := 20 }]
     s.find 0 20 = .found 0 computingSegment ∧ (s.lane 0).reel.state = .scanning ∧
     (s.lane 0).tracker.current = some 20 ∧ (s.lane 0).queue = []) := by
  decide +kernel

theorem witness_GradeCompletion_laws : SlotLaws closingInEngine ∧ EngineLaws closingInEngine :=
  ⟨⟨by decide +kernel, by decide +kernel, by decide +kernel, by decide +kernel, by decide +kernel⟩,
   engineLaws_of _ (by decide +kernel) (by decide +kernel) (by decide +kernel) (by decide +kernel) (by decide +kernel)⟩

/-- The completion of a RETIRING segment answers its entry and frees it, and the reel retires (R114, R145, R156, R158). -/
theorem test_completionRetires :
    (match exec .gradeCompletion closingInEngine with
     | .next t => decide (t.lookup.deferred = [] ∧ t.lookup.answers.map Answer.status = [.settled] ∧ t.seg 0 = none ∧
         (t.lane 0).reel.state = .empty)
     | _ => false) = true := by decide +kernel

theorem witness_DeferralTickAndExpiry :
    (∀ e ∈ following.lookup.deferred, 2 ≤ e.remaining) ∧
    (waiting following [sampleEntry .ahead 2, sampleEntry .ahead 1]).lookup.deferred =
      [sampleEntry .ahead 2] ++ sampleEntry .ahead 1 :: [] ∧
    2 ≤ (sampleEntry .ahead 2).remaining ∧ (sampleEntry .ahead 1).remaining ≤ 1 ∧
    ((following.lane 0).tracker.current = some 20 ∧ 20 < (sampleEntry .ahead 1).frame ∧
      following.openSeg 0 = some (0, sampleSegment)) ∧
    following.find 0 20 = .found 0 sampleSegment ∧
    ((following.lane 1).tracker.current = none ∧ following.openSeg 1 = none) ∧
    ((awaitedClosing.lane 0).reel.state = .closing ∧
      awaitedClosing.seg 0 = some { sampleSegment with last := some 20, life := .retiring }) := by
  decide +kernel

/-- R141: a tick answers the entries it brings to 0 in acceptance order, in the one step, and the others lose a tick; two entries at their last tick await the one segment of a closing, which the second frees. -/
theorem test_tickExpires :
    (match exec .deferralTick (waiting following [sampleEntry .ahead 1, sampleEntry .ahead 3, { sampleEntry .ahead 1 with tag := 6 }]) with
     | .next t => decide (t.lookup.deferred = [sampleEntry .ahead 2] ∧ t.lookup.answers.map Answer.tag = [5, 6] ∧
         t.lookup.answers.map Answer.status = [.provisional, .provisional])
     | _ => false) = true ∧
    (match exec .deferralTick (waiting awaitedClosing [{ sampleEntry (.segment 0) 1 with frame := 20 }, { sampleEntry (.segment 0) 1 with frame := 19 }]) with
     | .next t => decide (t.lookup.deferred = [] ∧ t.seg 0 = none ∧ (t.lane 0).reel.state = .empty)
     | _ => false) = true := by decide +kernel

/-- With one entry at its last tick DEFERRAL_EXPIRY takes that entry alone. -/
theorem test_expiryTakesOne :
    (match exec .deferralExpiry (waiting following [sampleEntry .ahead 2, sampleEntry .ahead 1]) with
     | .next t => decide (t.lookup.deferred = [sampleEntry .ahead 2] ∧ t.lookup.answers.length = 1)
     | _ => false) = true := by decide +kernel

/-- A closed and a fade-carrying segment's slots: FADE absent is 65,535, and the answered POSITION is clamped (R148, R19). -/
theorem test_fieldCodes :
    FieldCode.value 20 0 sampleSegment .fade = 65535 ∧ FieldCode.value 20 0 { sampleSegment with fade := some 7 } .fade = 7 ∧
    FieldCode.value 20 0 { sampleSegment with travelOffset := -4000, anchorPosition := -90000 } .positionLow = 0 ∧
    FieldCode.value 1 0 { sampleSegment with lateralOffset := -1 } .lateral = 65535 ∧
    FieldCode.value 1 0 { sampleSegment with phase := .measuring, coasts := 1 } .flags = 18 := by decide +kernel

/-- The hypotheses of the four invariants together, on a state that steps. -/
theorem witness_LawsKept :
    SlotLaws following ∧ EngineLaws following ∧ LookupLaws following ∧ RecordLaws following ∧
    ∃ t, step following = .next t :=
  ⟨following_slotLaws, following_engineLaws, following_lookupLaws, following_recordLaws, _, rfl⟩

end Sys2Proof.Tests
end

section
/-! PROOFS. What the laws read of a state, and one induction principle over the commands: a predicate that the part's effects on its records keep is kept by every step. -/

namespace Sys2Proof.Machine

/-! ### What the laws read -/

/-- The parts of a state that the four laws of Safety.lean read: no link, notice, policy, profile, tracker or lamp duty is among them. -/
structure LawView where
  reel : Lane → Reel
  queue : Lane → List Candidate
  segments : Vector (Option Segment) 160
  freeList : List Slot
  computeQueue : List Slot
  engine : Option Slot
  lease : Option Nat
  leaseLength : Nat
  limit : Nat
  enabled : Bool
  layout : List FieldCode
  deferred : List Deferral
  answers : List Answer

/-- What the laws read of a state. -/
def State.lawView (s : State) : LawView :=
  { reel := fun l => (s.lane l).reel, queue := fun l => (s.lane l).queue, segments := s.segments,
    freeList := s.freeList, computeQueue := s.computeQueue, engine := s.engine, lease := s.lease,
    leaseLength := s.leaseLength, limit := s.limit, enabled := s.lookup.enabled, layout := s.lookup.layout,
    deferred := s.lookup.deferred, answers := s.lookup.answers }

section
variable (s : State)

/-- A write of a lane that leaves its reel and its Candidate Queue alone is not seen by the laws. -/
theorem onLane_lawView (l : Lane) (f : LaneState → LaneState) (hr : (f (s.lane l)).reel = (s.lane l).reel)
    (hq : (f (s.lane l)).queue = (s.lane l).queue) : (s.onLane l f).lawView = s.lawView := by
  have reel : ∀ m, ((s.onLane l f).lane m).reel = (s.lane m).reel := by
    intro m
    by_cases h : m = l
    · subst h; rw [onLane_lane, hr]
    · rw [onLane_lane_other _ _ _ _ h]
  have queue : ∀ m, ((s.onLane l f).lane m).queue = (s.lane m).queue := by
    intro m
    by_cases h : m = l
    · subst h; rw [onLane_lane, hq]
    · rw [onLane_lane_other _ _ _ _ h]
  simp [State.lawView, reel, queue]

@[simp] theorem raise_lawView (l : Lane) (k : LaneKind) (o : Option Slot) : (s.raise l k o).lawView = s.lawView :=
  onLane_lawView s l _ rfl rfl

@[simp] theorem raisePart_lawView (k : PartKind) (o : Option Slot) : (s.raisePart k o).lawView = s.lawView := rfl

@[simp] theorem onLink_lawView (k : PortName) (f : Link → Link) : (s.onLink k f).lawView = s.lawView := by
  cases k <;> rfl

@[simp] theorem reply_lawView (k : PortName) (status : ReplyStatus) (reason : Reason) (payload : List WireField) :
    (s.reply k status reason payload).lawView = s.lawView := onLink_lawView s k _

@[simp] theorem ok_lawView (k : PortName) (payload : List WireField) : (s.ok k payload).lawView = s.lawView :=
  reply_lawView s k _ _ _

@[simp] theorem refuse_lawView (k : PortName) (reason : Reason) : (s.refuse k reason).lawView = s.lawView :=
  reply_lawView s k _ _ _

@[simp] theorem refuseValue_lawView (k : PortName) (number : Nat) : (s.refuseValue k number).lawView = s.lawView :=
  reply_lawView s k _ _ _

@[simp] theorem setStatus_lawView (x : LinkStatus) : (s.setStatus x).lawView = s.lawView := rfl

@[simp] theorem reorder_lawView (order : ByteOrder) :
    (s.onLookup fun u => { u with order := order }).lawView = s.lawView := rfl

@[simp] theorem setProfile_lawView (p : ProfileNo) (f : Profile → Profile) : (s.setProfile p f).lawView = s.lawView := rfl

@[simp] theorem setPartPolicy_lawView (k : Fin 5) (p : Policy) : (s.setPartPolicy k p).lawView = s.lawView := rfl

/-- A fold of operations that the laws do not see is not seen by them. -/
theorem foldl_lawView {α : Type} (f : State → α → State) (h : ∀ s a, (f s a).lawView = s.lawView) (xs : List α) :
    (xs.foldl f s).lawView = s.lawView := by
  induction xs generalizing s with
  | nil => rfl
  | cons x rest ih => rw [List.foldl_cons, ih, h]

@[simp] theorem setLanePolicy_lawView (lanes : List Lane) (k : Fin 11) (p : Policy) :
    (s.setLanePolicy lanes k p).lawView = s.lawView :=
  foldl_lawView s _ (fun s l => onLane_lawView s l _ rfl rfl) lanes

@[simp] theorem clearNotices_lawView (link : PortName) (lanes : List Lane) (mask : Nat) :
    (s.clearNotices link lanes mask).lawView = s.lawView :=
  foldl_lawView s (fun s l => s.onLane l fun d => d.clearNotices link mask)
    (fun s l => onLane_lawView s l _ rfl rfl) lanes

end

/-! ### The effects that a law must outlast -/

/-- A predicate over states that sees only what the laws read, and that each effect of a command on the records keeps. A field's hypotheses are the tests that the command makes before the effect. -/
structure KeptByEffects (P : State → Prop) : Prop where
  unseen : ∀ {s t : State}, t.lawView = s.lawView → P s → P t
  powerOn : P State.reset
  partReset : ∀ {s}, P s → P s.partReset
  load : ∀ {s l} (d : ReelLoad), P s → (s.lane l).reel.state = .empty →
    P (s.onReel l fun _ => { state := .loaded, load := some d, chain := [] })
  restate : ∀ {s l} (f : LaneState → LaneState), P s → (f (s.lane l)).reel.chain = (s.lane l).reel.chain →
    (f (s.lane l)).queue = (s.lane l).queue →
    (f (s.lane l)).reel.state = .scanning ∨ (f (s.lane l)).reel.state = .paused → P (s.onLane l f)
  unloadLoaded : ∀ {s l}, P s → (s.lane l).reel.state = .loaded → P (s.unloadLoaded l)
  closeReel : ∀ {s l}, P s →
    (s.lane l).reel.state = .scanning ∨ (s.lane l).reel.state = .paused ∨ (s.lane l).reel.state = .ended →
    P (s.closeReel l)
  laneReset : ∀ {s} l, P s → P (s.laneReset l)
  relayout : ∀ {s} (layout : List FieldCode), P s → s.lookup.enabled = false → layout ≠ [] →
    layout.length ≤ Config.layoutMax → P (s.onLookup fun u => { u with layout := layout })
  enable : ∀ {s} (enable : Bool) (order : ByteOrder), P s → s.lookup.enabled = false →
    P (s.onLookup fun u => { u with order := order, enabled := enable })
  disableLink : ∀ {s}, P s → P s.disableLink
  setTimers : ∀ {s} (tick : TickSelect) {limit lease : Nat}, P s → 1 ≤ limit → limit ≤ 255 → lease ≤ Config.leaseMax →
    P (s.setTimers tick limit lease)
  reloadLease : ∀ {s}, P s → P s.reloadLease
  dropHolds : ∀ {s} (named : Slot → Bool) (notice : PartKind) (slot : Option Slot), P s → P (s.dropHolds named notice slot)
  takeSegment : ∀ {s i r}, P s → s.seg i = some r → r.life ≠ .retiring → r.owner ≠ .console → r.takePending ≠ true →
    P (s.takeSegment i r)
  release : ∀ {s i r}, P s → s.seg i = some r → r.owner ≠ .auto →
    P (((s.putSeg i (some r.handedBack)).raisePart .handback (some i)).retire fun j => decide (j = i))
  consoleWrite : ∀ {s i r} (lift : Rgb Int) (gain : Rgb Nat) (fade : Option Nat) (source : GradeSource)
    (along across : Int) (lamp cadence : Nat), P s → s.seg i = some r → r.owner = .console →
    P (s.putSeg i (some
      ({ r with
          lift := lift, gain := gain, fade := fade, source := source, travelOffset := along, lateralOffset := across
          lamp := lamp, cadence := cadence } : Segment).bump))
  cut : ∀ {s i j a t frame}, P s → s.seg i = some a → a.life ≠ .retiring → a.phase = .settled →
    ¬(frame ≤ a.first ∨ s.lastCovered a < frame) → s.allocate a.lane = some (j, t) → P (t.cutSegment i j a frame)
  join : ∀ {s i j a b}, P s → s.seg i = some a → s.seg j = some b → successorOf i (s.chain a.lane) = some j →
    a.life ≠ .retiring → ¬(a.phase ≠ .settled ∨ b.phase ≠ .settled) →
    ¬(a.owner ≠ b.owner ∨ a.takePending = true ∨ b.takePending = true) → P (s.joinSegments i j a b)
  regrade : ∀ {s i r}, P s → s.seg i = some r → r.life ≠ .retiring → r.owner ≠ .console → ¬r.phase ≠ .settled →
    P (s.putSeg i (some r.regraded))
  deliver : ∀ {s} (o : LookupOpening) (count : Nat), P s → P (s.onLookup fun u => u.deliver o count)
  takeLookup : ∀ {s} (tag lane frame : Nat), P s → P (s.takeLookup tag lane frame)
  takeSummary : ∀ {s} (lane frame : Nat) (black white mean : Rgb Nat), P s → P (s.takeSummary lane frame black white mean)
  perfWord : ∀ {s} (l : Lane) (position strength : Nat), P s → P (s.perfWord l position strength)
  spliceWord : ∀ {s} (l : Lane) (position kind : Nat), P s → P (s.spliceWord l position kind)
  travelWord : ∀ {s} (l : Lane) (position : Nat), P s → P (s.travelWord l position)
  runoutWord : ∀ {s} (l : Lane) (position : Nat), P s → P (s.runoutWord l position)
  complete : ∀ {s}, P s → P s.complete
  deferralTick : ∀ {s}, P s → P s.deferralTick
  expire : ∀ {s}, P s → P s.expire
  leaseTick : ∀ {s}, P s → P s.leaseTick
  leaseExpiry : ∀ {s}, P s → P s.leaseExpiry

/-- A predicate holds of the next state, if a result answers one. -/
def Result.Gives (P : State → Prop) (x : Result) : Prop := ∀ t, x = .next t → P t

/-! ### The tests that commands share -/

section
variable {P : State → Prop} {s : State}

theorem unlessReset_gives {act : State → State} (hs : P s) (ha : P (act s)) : Result.Gives P (s.unlessReset act) :=
  fun _ ht => unlessReset_keeps hs ha ht

/-- A list of codes that is read whole has as many codes. -/
theorem layoutOf_length {position : Nat} {codes : List Nat} {layout : List FieldCode}
    (h : layoutOf position codes = .ok layout) : layout.length = codes.length := by
  induction codes generalizing position layout with
  | nil => cases h; rfl
  | cons n rest ih =>
    simp only [layoutOf] at h
    split at h
    · cases h
    · cases hr : layoutOf (position + 1) rest with
      | error e => rw [hr] at h; cases h
      | ok cs => rw [hr] at h; cases h; simp [ih hr]

variable (h : KeptByEffects P) (hs : P s)
include h hs

namespace KeptByEffects

theorem ok_kept (k : PortName) (payload : List WireField) : P (s.ok k payload) := h.unseen (ok_lawView s k payload) hs

theorem refuse_kept (k : PortName) (reason : Reason) : P (s.refuse k reason) := h.unseen (refuse_lawView s k reason) hs

theorem refuseValue_kept (k : PortName) (number : Nat) : P (s.refuseValue k number) :=
  h.unseen (refuseValue_lawView s k number) hs

theorem withLane_kept (lane : Nat) {act : Lane → State} (ha : ∀ l, P (act l)) : P (s.withLane lane act) := by
  simp only [State.withLane]
  split
  · exact h.refuse_kept hs _ _
  · exact ha _

theorem withSegment_kept (k : PortName) (slot : Nat) {act : Slot → Segment → State}
    (ha : ∀ i r, s.seg i = some r → P (act i r)) : P (s.withSegment k slot act) := by
  simp only [State.withSegment]
  split
  · exact h.refuse_kept hs _ _
  · split
    · exact h.refuse_kept hs _ _
    · rename_i hr; exact ha _ _ hr

theorem withOwned_kept (slot : Nat) {act : Slot → Segment → State}
    (ha : ∀ i r, s.seg i = some r → r.owner = .console → P (act i r)) : P (s.withOwned slot act) := by
  refine h.withSegment_kept hs _ _ fun i r hr => ?_
  split
  · rename_i ho; exact ha i r hr ho
  · exact h.refuse_kept hs _ _

theorem withFreeProfile_kept (number : Nat) {act : ProfileNo → State} (ha : ∀ p, P (act p)) :
    P (s.withFreeProfile number act) := by
  simp only [State.withFreeProfile]
  split
  · exact h.refuse_kept hs _ _
  · split
    · exact h.refuse_kept hs _ _
    · exact ha _

theorem writePolicy_kept (enable route hold : Nat) (partWide : Bool) {write : Policy → State} (ha : ∀ p, P (write p)) :
    P (s.writePolicy enable route hold partWide write) := by
  simp only [State.writePolicy]
  split
  · exact h.refuseValue_kept hs _ _
  · split
    · exact h.refuseValue_kept hs _ _
    · split
      · exact h.refuseValue_kept hs _ _
      · split
        · exact h.refuseValue_kept hs _ _
        · exact h.ok_kept (ha _) _ _

/-! ### The reel commands (chapters 2 and 9) -/

theorem execLoadReel_kept (lane tag gauge profile cadence : Nat) :
    Result.Gives P (execLoadReel lane tag gauge profile cadence s) := by
  refine unlessReset_gives hs (h.withLane_kept hs lane fun l => ?_)
  split
  · exact h.refuse_kept hs _ _
  · rename_i empty
    split
    · exact h.refuseValue_kept hs _ _
    · split
      · exact h.refuseValue_kept hs _ _
      · simp only [State.loadProfile]
        repeat' split
        · exact h.refuse_kept hs _ _
        · exact h.refuse_kept hs _ _
        · exact h.refuse_kept hs _ _
        · exact h.ok_kept (h.load _ hs (Decidable.of_not_not empty)) _ _

theorem execStart_kept (lane : Nat) : Result.Gives P (execStart lane s) := by
  refine unlessReset_gives hs (h.withLane_kept hs lane fun l => ?_)
  split
  · exact h.ok_kept (h.restate _ hs rfl rfl (Or.inl rfl)) _ _
  all_goals exact h.refuse_kept hs _ _

theorem execPause_kept (lane : Nat) : Result.Gives P (execPause lane s) := by
  refine unlessReset_gives hs (h.withLane_kept hs lane fun l => ?_)
  split
  · exact h.ok_kept (h.restate _ hs rfl rfl (Or.inr rfl)) _ _
  all_goals exact h.refuse_kept hs _ _

theorem execResume_kept (lane : Nat) : Result.Gives P (execResume lane s) := by
  refine unlessReset_gives hs (h.withLane_kept hs lane fun l => ?_)
  split
  · exact h.ok_kept (h.restate _ hs rfl rfl (Or.inl rfl)) _ _
  all_goals exact h.refuse_kept hs _ _

theorem execUnload_kept (lane : Nat) : Result.Gives P (execUnload lane s) := by
  refine unlessReset_gives hs (h.withLane_kept hs lane fun l => ?_)
  split
  · exact h.refuse_kept hs _ _
  · exact h.refuse_kept hs _ _
  · rename_i st; exact h.ok_kept (h.unloadLoaded hs st) _ _
  · rename_i st; exact h.ok_kept (h.closeReel hs (Or.inl st)) _ _
  · rename_i st; exact h.ok_kept (h.closeReel hs (Or.inr (Or.inl st))) _ _
  · rename_i st; exact h.ok_kept (h.closeReel hs (Or.inr (Or.inr st))) _ _

theorem execLaneReset_kept (lane : Nat) : Result.Gives P (execLaneReset lane s) :=
  unlessReset_gives hs (h.withLane_kept hs lane fun l => h.ok_kept (h.laneReset l hs) _ _)

/-! ### Profiles and settings (R35-R39, R149, R150, R165, R166, R177) -/

theorem execSetProfile_kept (number : Nat) (fields : ProfileFields) : Result.Gives P (execSetProfile number fields s) := by
  refine unlessReset_gives hs (h.withFreeProfile_kept hs number fun p => ?_)
  split
  · exact h.refuseValue_kept hs _ _
  · exact h.ok_kept (h.unseen (setProfile_lawView s p _) hs) _ _

theorem execInvalidateProfile_kept (number : Nat) : Result.Gives P (execInvalidateProfile number s) :=
  unlessReset_gives hs (h.withFreeProfile_kept hs number fun p => h.ok_kept (h.unseen (setProfile_lawView s p _) hs) _ _)

theorem execSetLayout_kept (codes : List Nat) : Result.Gives P (execSetLayout codes s) := by
  refine unlessReset_gives hs ?_
  split
  · exact h.refuse_kept hs _ _
  · rename_i disabled
    split
    · exact h.refuseValue_kept hs _ _
    · rename_i count
      split
      · exact h.refuseValue_kept hs _ _
      · rename_i layout hl
        have length := layoutOf_length hl
        obtain ⟨some, few⟩ := not_or.mp count
        refine h.ok_kept (h.relayout layout hs (by simpa using disabled) ?_ (by omega)) _ _
        rintro rfl
        exact some (List.length_eq_zero_iff.mp length.symm)

theorem execSetLookupLink_kept (enable order : Nat) : Result.Gives P (execSetLookupLink enable order s) := by
  refine unlessReset_gives hs ?_
  split
  · exact h.refuseValue_kept hs _ _
  · split
    · exact h.refuseValue_kept hs _ _
    · simp only [State.setLookupLink]
      split
      · split
        · split
          · exact h.ok_kept hs _ _
          · exact h.refuse_kept hs _ _
        · exact h.ok_kept (h.unseen (reorder_lawView _ _) (h.disableLink hs)) _ _
      · rename_i disabled
        exact h.ok_kept (h.enable _ _ hs (by simpa using disabled)) _ _

theorem execSetPolicy_kept (lane kind enable route hold : Nat) :
    Result.Gives P (execSetPolicy lane kind enable route hold s) := by
  refine unlessReset_gives hs ?_
  split
  · exact h.refuseValue_kept hs _ _
  · exact h.writePolicy_kept hs _ _ _ _ fun p => h.unseen (setPartPolicy_lawView s _ p) hs
  · split
    · exact h.refuse_kept hs _ _
    · exact h.writePolicy_kept hs _ _ _ _ fun p => h.unseen (setLanePolicy_lawView s _ _ p) hs

theorem execSetTimers_kept (tick limit lease : Nat) : Result.Gives P (execSetTimers tick limit lease s) := by
  refine unlessReset_gives hs ?_
  split
  · exact h.refuseValue_kept hs _ _
  · split
    · exact h.refuseValue_kept hs _ _
    · split
      · exact h.refuseValue_kept hs _ _
      · exact h.ok_kept (h.setTimers _ hs (by omega) (by omega) (by omega)) _ _

theorem execClearNotice_kept (link : PortName) (lane mask : Nat) : Result.Gives P (execClearNotice link lane mask s) := by
  refine unlessReset_gives hs ?_
  split
  · exact h.refuse_kept hs _ _
  · split
    · exact h.refuseValue_kept hs _ _
    · exact h.ok_kept (h.unseen (clearNotices_lawView s link _ mask) hs) _ _

/-! ### The console's requests (chapter 7, R108) -/

theorem execTake_kept (slot : Nat) : Result.Gives P (execTake slot s) := by
  refine unlessReset_gives hs (h.withSegment_kept hs _ _ fun i r hr => ?_)
  split
  · exact h.refuse_kept hs _ _
  · rename_i life
    split
    · exact h.refuse_kept hs _ _
    · rename_i owner
      split
      · exact h.refuse_kept hs _ _
      · rename_i pending; exact h.takeSegment hs hr life owner pending

theorem execRelease_kept (slot : Nat) : Result.Gives P (execRelease slot s) := by
  refine unlessReset_gives hs (h.withSegment_kept hs _ _ fun i r hr => ?_)
  split
  · exact h.refuse_kept hs _ _
  · rename_i owner; exact h.ok_kept (h.release hs hr owner) _ _

theorem execForceRelease_kept (slot : Nat) : Result.Gives P (execForceRelease slot s) := by
  refine unlessReset_gives hs ?_
  split
  · exact h.ok_kept (h.dropHolds _ _ _ hs) _ _
  · refine h.withSegment_kept hs _ _ fun i r _ => ?_
    split
    · exact h.ok_kept (h.dropHolds _ _ _ hs) _ _
    · exact h.refuse_kept hs _ _

theorem execRenew_kept : Result.Gives P (execRenew s) := by
  refine unlessReset_gives hs (h.ok_kept ?_ _ _)
  split
  · exact hs
  · exact h.reloadLease hs

theorem execSetGrade_kept (slot : Nat) (lift : Rgb Int) (gain : Rgb Nat) (fade : Nat) :
    Result.Gives P (execSetGrade slot lift gain fade s) := by
  refine unlessReset_gives hs (h.withOwned_kept hs _ fun i r hr owner => ?_)
  split
  · exact h.refuseValue_kept hs _ _
  · exact h.ok_kept (h.consoleWrite _ _ _ _ _ _ _ _ hs hr owner) _ _

theorem execSetOffset_kept (slot : Nat) (along across : Int) : Result.Gives P (execSetOffset slot along across s) := by
  refine unlessReset_gives hs (h.withOwned_kept hs _ fun i r hr owner => ?_)
  split
  · exact h.refuseValue_kept hs _ _
  · split
    · exact h.refuseValue_kept hs _ _
    · exact h.ok_kept (h.consoleWrite _ _ _ _ _ _ _ _ hs hr owner) _ _

theorem execSetLamp_kept (slot lamp : Nat) : Result.Gives P (execSetLamp slot lamp s) := by
  refine unlessReset_gives hs (h.withOwned_kept hs _ fun i r hr owner => ?_)
  split
  · exact h.refuseValue_kept hs _ _
  · exact h.ok_kept (h.consoleWrite _ _ _ _ _ _ _ _ hs hr owner) _ _

theorem execSetCadence_kept (slot cadence : Nat) : Result.Gives P (execSetCadence slot cadence s) := by
  refine unlessReset_gives hs (h.withOwned_kept hs _ fun i r hr owner => ?_)
  split
  · exact h.refuseValue_kept hs _ _
  · exact h.ok_kept (h.consoleWrite _ _ _ _ _ _ _ _ hs hr owner) _ _

theorem execCut_kept (slot frame : Nat) : Result.Gives P (execCut slot frame s) := by
  refine unlessReset_gives hs (h.withSegment_kept hs _ _ fun i a ha => ?_)
  split
  · exact h.refuse_kept hs _ _
  · rename_i life
    split
    · exact h.refuse_kept hs _ _
    · rename_i phase
      split
      · exact h.refuse_kept hs _ _
      · rename_i inside
        split
        · exact h.refuse_kept hs _ _
        · rename_i allocated
          exact h.ok_kept (h.cut hs ha life (Decidable.of_not_not phase) inside allocated) _ _

theorem execJoin_kept (slot : Nat) : Result.Gives P (execJoin slot s) := by
  refine unlessReset_gives hs (h.withSegment_kept hs _ _ fun i a ha => ?_)
  split
  · exact h.refuse_kept hs _ _
  · rename_i life
    split
    · exact h.refuse_kept hs _ _
    · rename_i j b successor
      obtain ⟨k, hk, hb⟩ := Option.bind_eq_some_iff.mp successor
      obtain ⟨_, seg, pair⟩ := Option.map_eq_some_iff.mp hb
      cases pair
      split
      · exact h.refuse_kept hs _ _
      · rename_i phases
        split
        · exact h.refuse_kept hs _ _
        · rename_i owners; exact h.ok_kept (h.join hs ha seg hk life phases owners) _ _

theorem execRegrade_kept (k : PortName) (slot : Nat) : Result.Gives P (execRegrade k slot s) := by
  refine unlessReset_gives hs (h.withSegment_kept hs _ _ fun i r hr => ?_)
  split
  · exact h.refuse_kept hs _ _
  · rename_i life
    split
    · exact h.refuse_kept hs _ _
    · rename_i owner
      split
      · exact h.refuse_kept hs _ _
      · split
        · exact h.refuse_kept hs _ _
        · rename_i phase; exact h.ok_kept (h.regrade hs hr life owner phase) _ _

/-! ### The reads (R24, R25, R39, R40, R164) -/

theorem execReadProfile_kept (number : Nat) : Result.Gives P (execReadProfile number s) := by
  refine unlessReset_gives hs ?_
  split
  · exact h.refuse_kept hs _ _
  · exact h.ok_kept hs _ _

theorem execReadLane_kept (lane : Nat) : Result.Gives P (execReadLane lane s) := by
  refine unlessReset_gives hs ?_
  split
  · exact h.refuse_kept hs _ _
  · exact h.ok_kept hs _ _

theorem execReadSegment_kept (k : PortName) (slot : Nat) : Result.Gives P (execReadSegment k slot s) := by
  refine unlessReset_gives hs ?_
  split
  · exact h.refuse_kept hs _ _
  · split
    · exact h.ok_kept hs _ _
    · exact h.ok_kept hs _ _

theorem execListReel_kept (k : PortName) (lane position : Nat) : Result.Gives P (execListReel k lane position s) := by
  refine unlessReset_gives hs ?_
  split
  · exact h.refuse_kept hs _ _
  · exact h.ok_kept hs _ _

theorem execReadNotices_kept (k : PortName) (lane : Nat) : Result.Gives P (execReadNotices k lane s) := by
  refine unlessReset_gives hs ?_
  split
  · exact h.refuse_kept hs _ _
  · exact h.ok_kept hs _ _

/-! ### The links (R147, R172, R176) -/

theorem execLinkTransaction_kept (k : PortName) (o : Opening) (bytes : List Byte) :
    Result.Gives P (execLinkTransaction k o bytes s) := by
  refine unlessReset_gives hs ?_
  split
  · exact hs
  · refine h.unseen (onLink_lawView _ k _) ?_
    split
    · exact h.reloadLease hs
    · exact hs

theorem execSetLink_kept (k : PortName) (order : Nat) : Result.Gives P (execSetLink k order s) := by
  refine unlessReset_gives hs ?_
  split
  · exact h.refuseValue_kept hs _ _
  · exact h.ok_kept (h.unseen (onLink_lawView s k _) hs) _ _

theorem takeWhole_kept (o : LookupOpening) (request : Instr) : P (s.takeWhole o request) := by
  simp only [State.takeWhole]
  split
  · exact h.unseen (setStatus_lawView s _) hs
  · split
    · exact h.takeLookup _ _ _ hs
    · exact h.takeSummary _ _ _ _ _ hs
    · exact hs

theorem execLookupLinkTransaction_kept (o : LookupOpening) (bytes : List Byte) :
    Result.Gives P (execLookupLinkTransaction o bytes s) := by
  refine unlessReset_gives hs ?_
  split
  · exact hs
  · have delivered := h.deliver o bytes.length hs
    simp only [State.transactLookup, State.takeShiftedIn]
    split
    · exact delivered
    · split
      · exact h.unseen (setStatus_lawView _ _) delivered
      · exact h.takeWhole_kept delivered _ _

/-! ### Malformed words and LEASE_EXPIRY -/

theorem faultWord_kept (l : Lane) : P (s.faultWord l) := by
  simp only [State.faultWord]
  split
  · exact h.unseen (raise_lawView s _ _ _) hs
  · exact hs

theorem execMalformedGateWord_kept (l : Lane) (bytes : List Byte) : Result.Gives P (execMalformedGateWord l bytes s) := by
  refine unlessReset_gives hs ?_
  split
  · exact h.faultWord_kept hs l
  · exact h.perfWord _ _ _ hs
  · exact h.spliceWord _ _ _ hs
  · exact h.travelWord _ _ hs
  · exact h.runoutWord _ _ hs

theorem execLeaseExpiry_kept : Result.Gives P (execLeaseExpiry s) := by
  refine unlessReset_gives hs ?_
  split
  · split
    · exact h.leaseExpiry hs
    · exact hs
  · exact hs

/-! ### Every command, every step -/

/-- A predicate that the effects keep is kept by every command. -/
theorem exec_kept (c : Instr) : Result.Gives P (exec c s) := by
  cases c with
  | powerOn => rintro t ⟨⟩; exact h.unseen (s := State.reset) rfl h.powerOn
  | resetLine held => rintro t ⟨⟩; exact h.unseen (s := s.partReset) rfl (h.partReset hs)
  | linkTransaction link opening bytes => exact h.execLinkTransaction_kept hs link opening bytes
  | loadReel lane tag gauge profile cadence => exact h.execLoadReel_kept hs lane tag gauge profile cadence
  | start lane => exact h.execStart_kept hs lane
  | pause lane => exact h.execPause_kept hs lane
  | resume lane => exact h.execResume_kept hs lane
  | unload lane => exact h.execUnload_kept hs lane
  | laneReset lane => exact h.execLaneReset_kept hs lane
  | setProfile number fields => exact h.execSetProfile_kept hs number fields
  | invalidateProfile number => exact h.execInvalidateProfile_kept hs number
  | readProfile number => exact h.execReadProfile_kept hs number
  | setLayout codes => exact h.execSetLayout_kept hs codes
  | setLookupLink enable order => exact h.execSetLookupLink_kept hs enable order
  | setPolicy lane kind enable route hold => exact h.execSetPolicy_kept hs lane kind enable route hold
  | setTimers tick limit lease => exact h.execSetTimers_kept hs tick limit lease
  | forceRelease slot => exact h.execForceRelease_kept hs slot
  | readLane lane => exact h.execReadLane_kept hs lane
  | resetPart => exact unlessReset_gives hs (h.partReset hs)
  | take slot => exact h.execTake_kept hs slot
  | release slot => exact h.execRelease_kept hs slot
  | setGrade slot lift gain fade => exact h.execSetGrade_kept hs slot lift gain fade
  | setOffset slot along across => exact h.execSetOffset_kept hs slot along across
  | setLamp slot lamp => exact h.execSetLamp_kept hs slot lamp
  | setCadence slot cadence => exact h.execSetCadence_kept hs slot cadence
  | cut slot frame => exact h.execCut_kept hs slot frame
  | join slot => exact h.execJoin_kept hs slot
  | renew => exact h.execRenew_kept hs
  | regrade link slot => exact h.execRegrade_kept hs link slot
  | readSegment link slot => exact h.execReadSegment_kept hs link slot
  | listReel link lane position => exact h.execListReel_kept hs link lane position
  | readNotices link lane => exact h.execReadNotices_kept hs link lane
  | clearNotice link lane mask => exact h.execClearNotice_kept hs link lane mask
  | setLink link order => exact h.execSetLink_kept hs link order
  | lookupLinkTransaction opening bytes => exact h.execLookupLinkTransaction_kept hs opening bytes
  | lookup tag lane frame => exact unlessReset_gives (act := (·.takeLookup tag lane frame)) hs (h.takeLookup tag lane frame hs)
  | summary lane frame black white mean => exact unlessReset_gives (act := (·.takeSummary lane frame black white mean)) hs (h.takeSummary lane frame black white mean hs)
  | perf lane position strength => exact unlessReset_gives (act := (·.perfWord lane position strength)) hs (h.perfWord lane position strength hs)
  | splice lane position kind => exact unlessReset_gives (act := (·.spliceWord lane position kind)) hs (h.spliceWord lane position kind hs)
  | travel lane position => exact unlessReset_gives (act := (·.travelWord lane position)) hs (h.travelWord lane position hs)
  | runout lane position => exact unlessReset_gives (act := (·.runoutWord lane position)) hs (h.runoutWord lane position hs)
  | malformedGateWord lane bytes => exact h.execMalformedGateWord_kept hs lane bytes
  | gradeCompletion => exact unlessReset_gives hs (h.complete hs)
  | deferralTick => exact unlessReset_gives hs (h.deferralTick hs)
  | deferralExpiry => exact unlessReset_gives hs (h.expire hs)
  | leaseTick => exact unlessReset_gives hs (h.leaseTick hs)
  | leaseExpiry => exact h.execLeaseExpiry_kept hs

/-- A predicate that the effects keep is kept by every step. -/
theorem step_kept : Result.Gives P (step s) := by
  simp only [step]
  split
  · rename_i rest _
    exact h.exec_kept (s := { s with pending := rest }) (h.unseen (s := s) rfl hs) _
  · split
    · exact h.exec_kept hs _
    · rintro t ⟨⟩; exact hs

end KeptByEffects
end

end Sys2Proof.Machine
end

section
/-! PROOFS. One induction principle over the film side: a predicate that the tracker's and the resolver's single acts keep is kept by every gate word (chapters 3 and 5). -/

namespace Sys2Proof.Machine

/-! ### Film-side writes that the laws do not see -/

section
variable (s : State) (l : Lane)

@[simp] theorem onTracker_lawView (f : Tracker → Tracker) : (s.onTracker l f).lawView = s.lawView :=
  onLane_lawView s l _ rfl rfl

@[simp] theorem setMeasure_lawView (m : Option MeasurePoint) : (s.setMeasure l m).lawView = s.lawView :=
  onLane_lawView s l _ rfl rfl

@[simp] theorem setDuty_lawView (d : Nat) : (s.setDuty l d).lawView = s.lawView := onLane_lawView s l _ rfl rfl

@[simp] theorem setDeadline_lawView : (s.setDeadline l).lawView = s.lawView := onTracker_lawView s l _

@[simp] theorem loadLamp_lawView : (s.loadLamp l).lawView = s.lawView := by
  simp only [State.loadLamp]
  split <;> simp

@[simp] theorem enterLost_lawView : (s.enterLost l).lawView = s.lawView := by simp [State.enterLost]

@[simp] theorem endRelock_lawView (wasLost : Bool) : (s.endRelock l wasLost).lawView = s.lawView := by
  simp only [State.endRelock]
  split <;> simp

end

/-! ### The acts of the film side -/

/-- A candidate as it arrives: nothing accumulated, and a span in its range (R79). -/
def Candidate.Fresh (e : Candidate) : Prop := e.acc = Accum.zero ∧ e.span ≤ Config.countMax

/-- A predicate over states that sees only what the laws read, and that each act of the film side keeps; `Ok` is what it asks of a Candidate Queue. -/
structure KeptByFilm (P : State → Prop) (Ok : List Candidate → Prop) : Prop where
  unseen : ∀ {s t : State}, t.lawView = s.lawView → P s → P t
  sublist : ∀ {q q' : List Candidate}, Ok q → q'.Sublist q → Ok q'
  counted : ∀ {q}, Ok q → Ok (q.map Candidate.countFrame)
  fresh : ∀ {e : Candidate}, e.Fresh → Ok [e]
  queued : ∀ {s} (l : Lane), P s → Ok (s.lane l).queue
  setQueue : ∀ {s} (l : Lane) {q}, P s → Ok q → P (s.setQueue l q)
  handBack : ∀ {s} (l : Lane) (acc : Accum), P s → P (s.handBack l acc)
  split : ∀ {s t l f position} {e : Candidate}, P s → Ok [e] →
    s.split l f position e.kind e.span e.acc = some t → P t
  countFrames : ∀ {s} (l : Lane) (perforations coasts : Nat), P s → P (s.countFrames l perforations coasts)
  revise : ∀ {s before} (i : Slot), P before → P s → P (s.revise before i)
  recheck : ∀ {s} (concerned : Deferral → Bool), P s → P (s.recheck concerned)
  arrive : ∀ {s} (l : Lane) {c : Candidate}, P s → c.Fresh → P (s.arrive l c)
  firstLock : ∀ {s l} (a c : Int), P s → (s.lane l).reel.state = .scanning → P (s.firstLock l a c)
  enterEnded : ∀ {s} (l : Lane), P s → P (s.enterEnded l)

namespace KeptByFilm

variable {P : State → Prop} {Ok : List Candidate → Prop} {s : State} (h : KeptByFilm P Ok) (hs : P s)
include h

/-- Each candidate of a good queue is good by itself. -/
theorem single {q : List Candidate} {e : Candidate} (hq : Ok q) (he : e ∈ q) : Ok [e] :=
  h.sublist hq (List.singleton_sublist.mpr he)

include hs

/-! ### Resolution (R84-R94) -/

theorem splitOrFull_kept (l : Lane) (f : Nat) (position : Int) {e : Candidate} (he : Ok [e]) :
    P (s.splitOrFull l f position e.kind e.span e.acc).1 := by
  simp only [State.splitOrFull]
  split
  · rename_i made; exact h.split hs he made
  · exact h.unseen (raise_lawView _ _ _ _) hs

theorem resolveTests_kept (l : Lane) {e : Candidate} (he : Ok [e]) (c : Nat) (x : Int) :
    P (s.resolveTests l e c x).1 := by
  simp only [State.resolveTests]
  split
  · exact hs
  · split
    · exact h.splitOrFull_kept hs l _ _ he
    · exact h.handBack l _ hs

theorem resolveEarly_kept (l : Lane) {e : Candidate} (he : Ok [e]) (c : Nat) (x : Int) : P (s.resolveEarly l e c x) := by
  simp only [State.resolveEarly]
  split
  · exact h.resolveTests_kept hs l he c x
  · exact h.handBack l _ hs

theorem earlyHead_kept (l : Lane) (n : Nat) : P (s.earlyHead l n) := by
  simp only [State.earlyHead]
  split
  · rename_i head second queue
    have good := queue ▸ h.queued l hs
    split
    · exact h.resolveEarly_kept (h.setQueue l hs (h.single good (by simp))) l (h.single good (by simp)) _ _
    · exact hs
  · exact hs

theorem resolveFrame_kept (l : Lane) (n : Nat) (position : Int) : P (s.resolveFrame l n position).1 := by
  have early := h.earlyHead_kept hs l n
  simp only [State.resolveFrame]
  split
  · exact early
  · rename_i head rest queue
    have good := queue ▸ h.queued l early
    have counted := h.counted good
    rw [List.map_cons] at counted
    split
    · exact h.splitOrFull_kept (h.setQueue l early (h.sublist good (List.sublist_cons_self _ _))) l _ _
        (h.single good (by simp))
    · split
      · exact h.resolveTests_kept (h.setQueue l early (h.sublist counted (List.sublist_cons_self _ _))) l
          (h.single counted (by simp)) _ _
      · exact h.setQueue l early counted

theorem resolveForGap_kept (l : Lane) (c : Nat) (x : Int) : P (s.resolveForGap l c x) :=
  List.foldlRecOn _ _ (h.setQueue l hs (h.sublist (h.queued l hs) (List.nil_sublist _))) fun _ ht _ he =>
    h.resolveEarly_kept ht l (h.single (h.queued l hs) he) c x

/-! ### Frames taken (R51, R58) -/

theorem onTracker_kept (l : Lane) (f : Tracker → Tracker) : P (s.onTracker l f) := h.unseen (onTracker_lawView _ _ _) hs

theorem reviseOpen_kept {before : State} (hb : P before) (l : Lane) : P (s.reviseOpen before l) := by
  simp only [State.reviseOpen]
  split
  · split
    · exact h.revise _ hb hs
    · exact hs
  · exact hs

/-- What ends the taking of frames, after the resolver and the count: the revision, the tracker, the lamp and the re-checks. -/
theorem frameEnd_kept {before : State} (hb : P before) (l : Lane) (f : Tracker → Tracker) :
    P (((((s.reviseOpen before l).onTracker l f).setDeadline l).loadLamp l).recheckFrame before l) :=
  h.recheck _ (h.unseen (by simp) (h.reviseOpen_kept hs hb l))

theorem takeFrame_kept (l : Lane) (n : Nat) (position : Int) (accepted : Bool) : P (s.takeFrame l n position accepted) := by
  simp only [State.takeFrame]
  refine h.frameEnd_kept (h.countFrames _ _ _ ?_) hs _ _
  split
  · exact h.resolveFrame_kept (h.unseen (setMeasure_lawView _ _ _) hs) l n position
  · exact h.resolveFrame_kept hs l n position

theorem endOfRange_kept (l : Lane) : P (s.endOfRange l) := h.enterEnded l (h.unseen (raise_lawView _ _ _ _) hs)

/-! ### The watches (R61-R63) -/

/-- A watch's candidate arrives fresh. -/
theorem watchCandidate_arrives_kept (l : Lane) (current frame : Nat) (position : Int) (kind : CandidateKind)
    (evidence : Evidence) : P (s.arrive l (watchCandidate current frame position kind evidence)) :=
  h.arrive l hs ⟨rfl, Nat.min_le_left _ _⟩

theorem driftWatch_kept (l : Lane) (r : Segment) (n : Nat) (position : Int) : P (s.driftWatch l r n position) := by
  simp only [State.driftWatch]
  split
  · exact h.onTracker_kept hs l _
  · split
    · exact h.onTracker_kept hs l _
    · split
      · exact h.watchCandidate_arrives_kept (h.onTracker_kept hs l _) l _ _ _ _ _
      · exact h.onTracker_kept hs l _

theorem watch_kept (l : Lane) (n : Nat) (position : Int) (previous : Option Int) : P (s.watch l n position previous) := by
  simp only [State.watch]
  split
  · exact hs
  · split
    · exact h.onTracker_kept hs l _
    · split
      · exact h.driftWatch_kept hs l _ n position
      · split
        · exact h.driftWatch_kept (h.onTracker_kept hs l _) l _ n position
        · split
          · exact h.driftWatch_kept (h.onTracker_kept hs l _) l _ n position
          · exact h.watchCandidate_arrives_kept (h.onTracker_kept hs l _) l _ _ _ _ _

/-! ### Following, coasting, threading and relock (R43-R57) -/

theorem acceptPerf_kept (l : Lane) (position : Int) : P (s.acceptPerf l position) := by
  simp only [State.acceptPerf]
  split
  · split
    · split
      · exact h.endOfRange_kept hs l
      · exact h.watch_kept (h.onTracker_kept (h.takeFrame_kept hs l _ _ _) l _) l _ _ _
    · exact hs
  · exact hs

omit hs in
theorem synthesise_kept (l : Lane) (T : Int) (bound : Nat) {s : State} (hs : P s) : P (State.synthesise l T bound s) := by
  induction bound generalizing s with
  | zero => exact hs
  | succ n ih =>
    simp only [State.synthesise]
    split
    · split
      · exact hs
      · split
        · exact h.endOfRange_kept hs l
        · split
          · exact h.unseen (enterLost_lawView _ _) (h.onTracker_kept (h.takeFrame_kept hs l _ _ _) l _)
          · exact ih (h.onTracker_kept (h.takeFrame_kept hs l _ _ _) l _)
    · exact hs

theorem threadPerf_kept {l : Lane} (scanning : (s.lane l).reel.state = .scanning) (position : Int) :
    P (s.threadPerf l position) := by
  simp only [State.threadPerf]
  split
  · exact h.onTracker_kept hs l _
  · exact h.firstLock _ _ hs scanning

theorem relockGap_kept (l : Lane) (n c : Nat) (x p0 p2 : Int) : P (s.relockGap l n c x p0 p2) := by
  have gap : Ok [(⟨n, p0, .gap, .armed, 2, Accum.zero, Evidence.none⟩ : Candidate)] := h.fresh ⟨rfl, show 2 ≤ Config.countMax by decide⟩
  have given := h.resolveForGap_kept (h.unseen (setMeasure_lawView s l (some { frame := n + 2, position := p2 })) hs) l c x
  have split := h.splitOrFull_kept given l n p0 gap
  simp only [State.relockGap]
  refine h.frameEnd_kept ?_ hs _ _
  split
  · exact split
  · exact h.countFrames _ _ _ split

theorem relock_kept (l : Lane) (p0 p1 p2 : Int) : P (s.relock l p0 p1 p2) := by
  simp only [State.relock]
  split
  · split
    · exact h.endOfRange_kept hs l
    · split
      · refine h.unseen (endRelock_lawView _ _ _) ?_
        exact h.takeFrame_kept (h.takeFrame_kept (h.takeFrame_kept hs l _ p0 true) l _ p1 true) l _ p2 true
      · exact h.unseen (endRelock_lawView _ _ _) (h.relockGap_kept hs l _ _ _ p0 p2)
  · exact hs

theorem relockPerf_kept (l : Lane) (position : Int) : P (s.relockPerf l position) := by
  simp only [State.relockPerf]
  split
  · exact hs
  · split
    · exact h.onTracker_kept hs l _
    · exact h.relock_kept hs l _ _ _

/-! ### Gate words (R42) -/

/-- A word that is checked first is kept when its act on a SCANNING lane is. -/
theorem checkedWord_kept (l : Lane) (position : Nat) {act : State → State}
    (ha : (s.lane l).reel.state = .scanning → P (act s)) : P (s.checkedWord l position act) := by
  simp only [State.checkedWord]
  split
  · rename_i takes
    split
    · exact h.unseen (raise_lawView _ _ _ _) hs
    · simp only [State.takesWords, Bool.and_eq_true, decide_eq_true_eq] at takes
      exact ha takes.1
  · exact hs

theorem perfWord_kept (l : Lane) (position strength : Nat) : P (s.perfWord l position strength) := by
  refine h.checkedWord_kept hs l position fun scanning => ?_
  split
  · exact hs
  · split
    · exact h.threadPerf_kept hs scanning _
    · exact h.acceptPerf_kept hs l _
    · exact h.acceptPerf_kept hs l _
    · exact h.relockPerf_kept hs l _
    · exact h.relockPerf_kept hs l _
    · exact hs

theorem spliceCandidateArrives_kept (l : Lane) (position : Int) (kind : CandidateKind) :
    P (s.spliceCandidateArrives l position kind) := by
  simp only [State.spliceCandidateArrives]
  split
  · exact hs
  · split
    · exact hs
    · exact h.recheck _ (h.reviseOpen_kept (h.arrive l hs ⟨rfl, Nat.zero_le _⟩) hs l)

theorem spliceWord_kept (l : Lane) (position kind : Nat) : P (s.spliceWord l position kind) := by
  simp only [State.spliceWord, State.faultWord]
  split
  · split
    · exact h.unseen (raise_lawView _ _ _ _) hs
    · exact hs
  · refine h.checkedWord_kept hs l position fun _ => ?_
    split
    · exact h.spliceCandidateArrives_kept hs l _ _
    · exact h.spliceCandidateArrives_kept hs l _ _
    · exact hs

theorem travelWord_kept (l : Lane) (position : Nat) : P (s.travelWord l position) := by
  refine h.checkedWord_kept hs l position fun _ => ?_
  split
  · exact h.synthesise_kept l _ _ hs
  · exact h.synthesise_kept l _ _ hs
  · exact hs

theorem runoutWord_kept (l : Lane) (position : Nat) : P (s.runoutWord l position) :=
  h.checkedWord_kept hs l position fun _ => h.enterEnded l hs

end KeptByFilm

end Sys2Proof.Machine
end

section
/-! PROOFS. The Free List and the chains: what each operation leaves of them, up to O56. -/

namespace Sys2Proof.Machine

/-! ### What the laws of the Free List and the chains read -/

/-- The Free List, the chains, the lane of each record that is not FREE, and the reel states. -/
structure SlotView where
  free : List Slot
  chain : Lane → List Slot
  lane : Slot → Option Lane
  state : Lane → ReelState

/-- The slot view of a state. -/
def State.slotView (s : State) : SlotView :=
  { free := s.freeList, chain := s.chain, lane := fun i => (s.seg i).map Segment.lane,
    state := fun l => (s.lane l).reel.state }

/-- How often a slot stands in the four chains. -/
def SlotView.chained (v : SlotView) (i : Slot) : Nat :=
  (v.chain 0).count i + (v.chain 1).count i + (v.chain 2).count i + (v.chain 3).count i

/-- The reel of the lane is EMPTY or LOADED. -/
def SlotView.Unloaded (v : SlotView) (l : Lane) : Prop := v.state l = .empty ∨ v.state l = .loaded

/-- SlotLaws on a view, with conservation as a count: each slot stands once in the Free List or in one chain. -/
structure SlotView.Lawful (v : SlotView) : Prop where
  once : ∀ i, v.free.count i + v.chained i = 1
  bounded : ∀ l, (v.chain l).length ≤ Config.chainMax
  freed : ∀ i ∈ v.free, v.lane i = none
  placed : ∀ l, ∀ i ∈ v.chain l, v.lane i = some l
  unloaded : ∀ l, v.Unloaded l → v.chain l = []

/-- The laws of the Free List and the chains are those of the view. -/
theorem slotLaws_iff {s : State} : SlotLaws s ↔ s.slotView.Lawful := by
  have conserved : (s.freeList ++ s.chains).Perm (List.finRange 160) ↔
      ∀ i, s.slotView.free.count i + s.slotView.chained i = 1 := by
    rw [List.perm_iff_count]
    refine forall_congr' fun i => ?_
    rw [(List.nodup_finRange 160).count, if_pos (List.mem_finRange i)]
    simp only [State.chains, SlotView.chained, State.slotView, List.count_append, Nat.add_assoc]
  have freed : (∀ i ∈ s.freeList, s.seg i = none) ↔ ∀ i ∈ s.slotView.free, s.slotView.lane i = none := by
    simp [State.slotView]
  exact ⟨fun h => ⟨conserved.mp h.conserved, h.bounded, freed.mp h.freed, h.chained, h.unloaded⟩,
    fun h => ⟨conserved.mpr h.once, h.bounded, freed.mpr h.freed, h.placed, h.unloaded⟩⟩

/-- The laws pass between two states with the same view. -/
theorem SlotLaws.of_slotView {s t : State} (h : SlotLaws s) (hv : t.slotView = s.slotView) : SlotLaws t :=
  slotLaws_iff.mpr (hv ▸ slotLaws_iff.mp h)

/-! ### A function changed at one argument -/

/-- The function with the value at one argument replaced. -/
def setAt {α β : Type} [DecidableEq α] (f : α → β) (a : α) (b : β) (x : α) : β := if x = a then b else f x

section
variable {α β : Type} [DecidableEq α] (f : α → β) (a : α) (b : β)

@[simp] theorem setAt_same : setAt f a b a = b := if_pos rfl

theorem setAt_other {x : α} (h : x ≠ a) : setAt f a b x = f x := if_neg h

/-- A function with the value at `a`, and the values of `f` elsewhere, is `f` with that value there. -/
theorem eq_setAt {g : α → β} (same : g a = b) (other : ∀ x, x ≠ a → g x = f x) : g = setAt f a b :=
  funext fun x => by
    by_cases h : x = a
    · subst h; rw [setAt_same, same]
    · rw [setAt_other f a b h, other x h]

end

/-! ### Lawful views -/

namespace SlotView

/-- A chain holds its slots as often as all four chains at most. -/
theorem count_le_chained (v : SlotView) (l : Lane) (i : Slot) : (v.chain l).count i ≤ v.chained i := by
  simp only [chained]
  match l with
  | 0 => omega
  | 1 => omega
  | 2 => omega
  | 3 => omega

variable {v : SlotView} (h : v.Lawful)
include h

/-- A record's slot stands in the chain of its lane. -/
theorem Lawful.mem_chain {i : Slot} {l : Lane} (hi : v.lane i = some l) : i ∈ v.chain l := by
  have unfree : v.free.count i = 0 := List.count_eq_zero.mpr fun hf => by simp [h.freed i hf] at hi
  have one := h.once i
  obtain ⟨m, hm⟩ : ∃ m, i ∈ v.chain m := Classical.byContradiction fun no => by
    have zero : ∀ m, (v.chain m).count i = 0 := fun m => List.count_eq_zero.mpr fun hm => no ⟨m, hm⟩
    simp only [chained, zero, unfree] at one
    omega
  have same := h.placed m i hm
  rw [hi] at same
  cases same
  exact hm

/-- No chain holds a slot twice. -/
theorem Lawful.nodup_chain (l : Lane) : (v.chain l).Nodup :=
  List.nodup_iff_count.mpr fun i => by
    have := h.once i
    have := v.count_le_chained l i
    omega

/-- A chain that is not empty belongs to a reel that is neither EMPTY nor LOADED. -/
theorem Lawful.not_unloaded {l : Lane} (hl : v.chain l ≠ []) : ¬v.Unloaded l := fun hu => hl (h.unloaded l hu)

omit h

/-- A slot's record written for a lane, and the slot placed in that lane's chain (R2, R22). -/
def place (v : SlotView) (l : Lane) (j : Slot) (f : List Slot → List Slot) : SlotView :=
  { v with chain := setAt v.chain l (f (v.chain l)), lane := setAt v.lane j (some l) }

/-- A slot freed (R4): FREE, out of its chain and at the tail of the Free List. -/
def release (v : SlotView) (l : Lane) (i : Slot) : SlotView :=
  { v with
    free := v.free ++ [i]
    chain := setAt v.chain l ((v.chain l).erase i)
    lane := setAt v.lane i none }

/-- How often a slot stands in the chains after one chain changed. -/
theorem chained_update (v : SlotView) (l : Lane) (c : List Slot) (i : Slot) :
    ({ v with chain := setAt v.chain l c } : SlotView).chained i + (v.chain l).count i =
      v.chained i + c.count i := by
  have same : (setAt v.chain l c l).count i = c.count i := by rw [setAt_same]
  have other : ∀ m, m ≠ l → (setAt v.chain l c m).count i = (v.chain m).count i := fun m h => by
    rw [setAt_other _ _ _ h]
  simp only [chained]
  match l, same, other with
  | 0, same, other =>
    have := other 1 (by decide); have := other 2 (by decide); have := other 3 (by decide); omega
  | 1, same, other =>
    have := other 0 (by decide); have := other 2 (by decide); have := other 3 (by decide); omega
  | 2, same, other =>
    have := other 0 (by decide); have := other 1 (by decide); have := other 3 (by decide); omega
  | 3, same, other =>
    have := other 0 (by decide); have := other 1 (by decide); have := other 2 (by decide); omega

section
variable (v : SlotView) (l : Lane) (i : Slot) (f : List Slot → List Slot)

theorem place_chain_same : (v.place l i f).chain l = f (v.chain l) := setAt_same _ _ _

theorem place_chain_other {m : Lane} (h : m ≠ l) : (v.place l i f).chain m = v.chain m := setAt_other _ _ _ h

theorem place_lane_same : (v.place l i f).lane i = some l := setAt_same _ _ _

theorem place_lane_other {k : Slot} (h : k ≠ i) : (v.place l i f).lane k = v.lane k := setAt_other _ _ _ h

theorem release_chain_same : (v.release l i).chain l = (v.chain l).erase i := setAt_same _ _ _

theorem release_chain_other {m : Lane} (h : m ≠ l) : (v.release l i).chain m = v.chain m := setAt_other _ _ _ h

theorem release_lane_same : (v.release l i).lane i = none := setAt_same _ _ _

theorem release_lane_other {k : Slot} (h : k ≠ i) : (v.release l i).lane k = v.lane k := setAt_other _ _ _ h

end

include h

/-- An allocation with its placing keeps the laws (R2, R22). -/
theorem Lawful.place {l : Lane} {j : Slot} {rest : List Slot} {f : List Slot → List Slot} (free : v.free = j :: rest)
    (room : (v.chain l).length < Config.chainMax) (loaded : ¬v.Unloaded l)
    (perm : (f (v.chain l)).Perm (j :: v.chain l)) : (({ v with free := rest } : SlotView).place l j f).Lawful := by
  have one := h.once
  rw [free] at one
  have unchained : v.chained j = 0 := by have := one j; rw [List.count_cons_self] at this; omega
  have unfree : j ∉ rest := fun hj => by
    have once := one j
    have held := List.count_pos_iff.mpr hj
    rw [List.count_cons_self] at once
    omega
  have other : ∀ m, j ∉ v.chain m := fun m hm => by
    have := v.count_le_chained m j
    have := List.count_pos_iff.mpr hm
    omega
  refine ⟨fun i => ?once, fun m => ?bounded, fun i hi => ?freed, fun m i hi => ?placed, fun m hm => ?unloaded⟩
  case once =>
    have moved := v.chained_update l (f (v.chain l)) i
    have once := one i
    rw [perm.count_eq, List.count_cons] at moved
    rw [List.count_cons] at once
    have whole : rest.count i + ({ v with chain := setAt v.chain l (f (v.chain l)) } : SlotView).chained i = 1 := by omega
    exact whole
  case bounded =>
    by_cases hm : m = l
    · subst hm
      rw [place_chain_same, perm.length_eq]
      exact room
    · rw [place_chain_other _ _ _ _ hm]
      exact h.bounded m
  case freed =>
    have hj : i ≠ j := fun e => unfree (e ▸ hi)
    rw [place_lane_other _ _ _ _ hj]
    exact h.freed i (free ▸ List.mem_cons_of_mem j hi)
  case placed =>
    by_cases hm : m = l
    · subst hm
      rw [place_chain_same] at hi
      rcases List.mem_cons.mp (perm.mem_iff.mp hi) with hj | hi
      · subst hj
        exact place_lane_same _ _ _ _
      · have hj : i ≠ j := fun e => other m (e ▸ hi)
        rw [place_lane_other _ _ _ _ hj]
        exact h.placed m i hi
    · rw [place_chain_other _ _ _ _ hm] at hi
      have hj : i ≠ j := fun e => other m (e ▸ hi)
      rw [place_lane_other _ _ _ _ hj]
      exact h.placed m i hi
  case unloaded =>
    have hl : m ≠ l := fun e => loaded (e ▸ hm)
    rw [place_chain_other _ _ _ _ hl]
    exact h.unloaded m hm

/-- A freeing keeps the laws (R4). -/
theorem Lawful.release {l : Lane} {i : Slot} (hi : v.lane i = some l) : (v.release l i).Lawful := by
  have held := List.count_pos_iff.mpr (h.mem_chain hi)
  have lane : ∀ m, i ∈ v.chain m → m = l := fun m hm => by
    have := h.placed m i hm
    rw [hi] at this
    exact (Option.some.inj this).symm
  refine ⟨fun k => ?once, fun m => ?bounded, fun k hk => ?freed, fun m k hk => ?placed, fun m hm => ?unloaded⟩
  case once =>
    have moved := v.chained_update l ((v.chain l).erase i) k
    have once := h.once k
    have whole : (v.free ++ [i]).count k +
        ({ v with chain := setAt v.chain l ((v.chain l).erase i) } : SlotView).chained k = 1 := by
      rw [List.count_append]
      by_cases hk : k = i
      · subst hk
        rw [List.count_erase_self] at moved
        rw [List.count_singleton_self]
        omega
      · rw [List.count_erase_of_ne hk] at moved
        rw [List.count_eq_zero.mpr fun he => hk (List.mem_singleton.mp he)]
        omega
    exact whole
  case bounded =>
    by_cases hm : m = l
    · subst hm
      rw [release_chain_same]
      exact Nat.le_trans List.length_erase_le (h.bounded m)
    · rw [release_chain_other _ _ _ hm]
      exact h.bounded m
  case freed =>
    by_cases he : k = i
    · subst he
      exact release_lane_same _ _ _
    · rw [release_lane_other _ _ _ he]
      exact h.freed k ((List.mem_append.mp hk).resolve_right fun e => he (List.mem_singleton.mp e))
  case placed =>
    have stays : k ≠ i ∧ k ∈ v.chain m := by
      by_cases hm : m = l
      · subst hm
        rw [release_chain_same] at hk
        exact (h.nodup_chain m).mem_erase_iff.mp hk
      · rw [release_chain_other _ _ _ hm] at hk
        exact ⟨fun e => hm (lane m (e ▸ hk)), hk⟩
    rw [release_lane_other _ _ _ stays.1]
    exact h.placed m k stays.2
  case unloaded =>
    by_cases hl : m = l
    · subst hl
      rw [release_chain_same, h.unloaded m hm]
      rfl
    · rw [release_chain_other _ _ _ hl]
      exact h.unloaded m hm

/-- A change of one reel's state keeps the laws, where an EMPTY or LOADED reel has no chain. -/
theorem Lawful.restate {l : Lane} {x : ReelState} (hx : x = .empty ∨ x = .loaded → v.chain l = []) :
    ({ v with state := setAt v.state l x } : SlotView).Lawful := by
  refine ⟨h.once, h.bounded, h.freed, h.placed, fun m hm => ?_⟩
  simp only [Unloaded] at hm
  by_cases hl : m = l
  · subst hl
    rw [setAt_same] at hm
    exact hx hm
  · rw [setAt_other _ _ _ hl] at hm
    exact h.unloaded m hm

end SlotView

end Sys2Proof.Machine
end

section
/-! PROOFS. The operations that leave the Free List, the chains, the lanes of the records and the reel states as they were. -/

namespace Sys2Proof.Machine

/-- The slot view is part of what the laws read. -/
theorem slotView_of_lawView {s t : State} (h : t.lawView = s.lawView) : t.slotView = s.slotView := by
  have reel : ∀ l, (t.lane l).reel = (s.lane l).reel := congrFun (congrArg LawView.reel h)
  have free : t.freeList = s.freeList := congrArg LawView.freeList h
  have segments : t.segments = s.segments := congrArg LawView.segments h
  have chain : t.chain = s.chain := funext fun l => congrArg Reel.chain (reel l)
  have seg : t.seg = s.seg := funext fun i => congrArg (·[i.val]) segments
  simp only [State.slotView, free, chain, seg, reel]

/-! ### What a find and the open segment name (R7, R23) -/

/-- The open segment is a record with no last frame, its slot the last of the chain. -/
theorem openSeg_eq_some {s : State} {l : Lane} {i : Slot} {r : Segment} (h : s.openSeg l = some (i, r)) :
    s.seg i = some r ∧ (s.chain l).getLast? = some i ∧ r.last = none := by
  simp only [State.openSeg] at h
  split at h
  · cases h
  · rename_i j hj
    split at h
    · rename_i q hq
      split at h
      · rename_i hl; cases h; exact ⟨hq, hj, hl⟩
      · cases h
    · cases h

theorem openSeg_mem_chain {s : State} {l : Lane} {i : Slot} {r : Segment} (h : s.openSeg l = some (i, r)) :
    i ∈ s.chain l := List.mem_of_getLast? (openSeg_eq_some h).2.1

theorem findCovering_eq_some {s : State} {f : Nat} {is : List Slot} {i : Slot} {r : Segment}
    (h : s.findCovering f is = some (i, r)) : s.seg i = some r := by
  induction is with
  | nil => cases h
  | cons j rest ih =>
    simp only [State.findCovering] at h
    split at h
    · rename_i q hq
      split at h
      · cases h; exact hq
      · exact ih h
    · exact ih h

/-- A segment found is a record. -/
theorem find_found {s : State} {l : Lane} {f : Nat} {i : Slot} {r : Segment} (h : s.find l f = .found i r) :
    s.seg i = some r := by
  simp only [State.find] at h
  split at h
  · rename_i hc; cases h; exact findCovering_eq_some hc
  · split at h
    · split at h
      · split at h <;> cases h
      · cases h
    · cases h

/-! ### Single writes -/

section
variable (s before : State) (l : Lane)

/-- A write of a lane that keeps its chain and its reel's state keeps the slot view. -/
theorem onLane_slotView (f : LaneState → LaneState) (hc : (f (s.lane l)).reel.chain = (s.lane l).reel.chain)
    (hs : (f (s.lane l)).reel.state = (s.lane l).reel.state) : (s.onLane l f).slotView = s.slotView := by
  have key : ∀ m, ((s.onLane l f).lane m).reel.chain = (s.lane m).reel.chain ∧
      ((s.onLane l f).lane m).reel.state = (s.lane m).reel.state := by
    intro m
    by_cases h : m = l
    · subst h; rw [onLane_lane]; exact ⟨hc, hs⟩
    · rw [onLane_lane_other _ _ _ _ h]; exact ⟨rfl, rfl⟩
  have chain : (s.onLane l f).chain = s.chain := funext fun m => (key m).1
  simp only [State.slotView, chain, fun m => (key m).2]
  rfl

@[simp] theorem onTracker_slotView (f : Tracker → Tracker) : (s.onTracker l f).slotView = s.slotView :=
  slotView_of_lawView (onTracker_lawView s l f)

@[simp] theorem setQueue_slotView (q : List Candidate) : (s.setQueue l q).slotView = s.slotView :=
  onLane_slotView s l _ rfl rfl

@[simp] theorem setMeasure_slotView (m : Option MeasurePoint) : (s.setMeasure l m).slotView = s.slotView :=
  slotView_of_lawView (setMeasure_lawView s l m)

@[simp] theorem raise_slotView (k : LaneKind) (o : Option Slot) : (s.raise l k o).slotView = s.slotView :=
  slotView_of_lawView (raise_lawView s l k o)

@[simp] theorem raisePart_slotView (k : PartKind) (o : Option Slot) : (s.raisePart k o).slotView = s.slotView := rfl

@[simp] theorem onLookup_slotView (f : LookupUnit → LookupUnit) : (s.onLookup f).slotView = s.slotView := rfl

@[simp] theorem ok_slotView (k : PortName) (payload : List WireField) : (s.ok k payload).slotView = s.slotView :=
  slotView_of_lawView (ok_lawView s k payload)

@[simp] theorem reply_slotView (k : PortName) (status : ReplyStatus) (reason : Reason) (payload : List WireField) :
    (s.reply k status reason payload).slotView = s.slotView := slotView_of_lawView (reply_lawView s k _ _ _)

@[simp] theorem engineBegin_slotView : s.engineBegin.slotView = s.slotView := by rw [engineBegin_eq]; rfl

@[simp] theorem enqueue_slotView (i : Slot) : (s.enqueue i).slotView = s.slotView := by rw [enqueue_eq]; rfl

/-- New values of the record vector keep the slot view when each slot keeps its lane. -/
theorem withSegments_slotView (v : Vector (Option Segment) 160)
    (hv : ∀ i : Slot, v[i.val].map Segment.lane = (s.seg i).map Segment.lane) :
    ({ s with segments := v } : State).slotView = s.slotView := by
  have lane : (fun i => (({ s with segments := v } : State).seg i).map Segment.lane) =
      fun i => (s.seg i).map Segment.lane := funext hv
  simp only [State.slotView, lane]
  rfl

/-- A change of a record within its lane keeps the slot view. -/
theorem onSeg_slotView (i : Slot) (f : Segment → Segment) (hf : ∀ r, (f r).lane = r.lane) :
    (s.onSeg i f).slotView = s.slotView := by
  refine withSegments_slotView s _ fun j => ?_
  by_cases h : j = i
  · subst h; rw [update_same, Option.map_map]; exact congrArg (Option.map · (s.seg j)) (funext hf)
  · rw [update_other _ _ _ _ h]; rfl

variable {s} in
/-- A write of a record over one of its lane keeps the slot view. -/
theorem putSeg_slotView {i : Slot} {r q : Segment} (hr : s.seg i = some r) (hq : q.lane = r.lane) :
    (s.putSeg i (some q)).slotView = s.slotView := by
  refine withSegments_slotView s _ fun j => ?_
  by_cases h : j = i
  · subst h; rw [update_same, hr]; simp [hq]
  · rw [update_other _ _ _ _ h]; rfl

@[simp] theorem revise_slotView (i : Slot) : (s.revise before i).slotView = s.slotView := by
  rcases revise_cases s before i with h | ⟨a, -, h⟩ <;> rw [h]
  exact onSeg_slotView s i _ fun _ => rfl

theorem foldl_slotView {α : Type} (f : State → α → State) (h : ∀ s a, (f s a).slotView = s.slotView) (xs : List α) :
    (xs.foldl f s).slotView = s.slotView := by
  induction xs generalizing s with
  | nil => rfl
  | cons x rest ih => rw [List.foldl_cons, ih, h]

/-! ### Settling, closing and counting (R20, R21, R68) -/

/-- A settle leaves the segment in its lane. -/
theorem settled_lane (r : Segment) (p : Profile) : (r.settled p).lane = r.lane := (settled_keeps r p).2.2.2.2.2.2.2.1

@[simp] theorem settle_slotView (i : Slot) (pitch : Nat) : (s.settle i pitch).slotView = s.slotView := by
  simp only [State.settle]
  split
  · rfl
  · rename_i r hr
    have written := putSeg_slotView hr (settled_lane { r with pitch := pitch } (s.profile r.profile))
    split <;> simpa using written

@[simp] theorem closeSeg_slotView (i : Slot) (last pitch : Nat) : (s.closeSeg i last pitch).slotView = s.slotView := by
  simp only [State.closeSeg]
  split
  · rfl
  · rename_i r hr
    have written := putSeg_slotView (q := { r with last := some last }) hr rfl
    split <;> simpa using written

@[simp] theorem closeOpen_slotView : (s.closeOpen l).slotView = s.slotView := by
  simp only [State.closeOpen]
  split <;> simp

@[simp] theorem countFrames_slotView (perforations coasts : Nat) :
    (s.countFrames l perforations coasts).slotView = s.slotView := by
  simp only [State.countFrames]
  split
  · rfl
  · rename_i i r ho
    have hr := (openSeg_eq_some ho).1
    split
    · split
      · rw [settle_slotView]; exact putSeg_slotView hr rfl
      · exact putSeg_slotView hr rfl
    · exact putSeg_slotView hr rfl

@[simp] theorem setDeadline_slotView : (s.setDeadline l).slotView = s.slotView :=
  slotView_of_lawView (setDeadline_lawView s l)

@[simp] theorem loadLamp_slotView : (s.loadLamp l).slotView = s.slotView := slotView_of_lawView (loadLamp_lawView s l)

/-! ### Accumulators and candidates (chapter 5) -/

@[simp] theorem accumulate_slotView (i : Slot) (acc : Accum) : (s.accumulate i acc).slotView = s.slotView := by
  simp only [State.accumulate]
  split
  · rfl
  · rename_i r hr
    split
    · rw [enqueue_slotView]; exact putSeg_slotView hr rfl
    · exact putSeg_slotView hr rfl

@[simp] theorem handBack_slotView (acc : Accum) : (s.handBack l acc).slotView = s.slotView := by
  simp only [State.handBack]
  split
  · rfl
  · split <;> simp

@[simp] theorem teardownQueue_slotView : (s.teardownQueue l).slotView = s.slotView := by
  simp only [State.teardownQueue, setQueue_slotView]
  exact foldl_slotView s _ (fun s (e : Candidate) => handBack_slotView s l e.acc) _

@[simp] theorem arrive_slotView (c : Candidate) : (s.arrive l c).slotView = s.slotView := by
  simp only [State.arrive]
  split
  · rfl
  · split
    · rfl
    · split
      · simp
      · split
        · split <;> simp
        · split <;> simp

/-! ### Summaries (R83, R100, R102) -/

@[simp] theorem densityWatch_slotView (f : Nat) (mean : Rgb Nat) : (s.densityWatch l f mean).slotView = s.slotView := by
  simp only [State.densityWatch]
  split
  · rfl
  · split
    · split
      · rfl
      · split <;> simp
    · rfl

@[simp] theorem routeSummary_slotView (f : Nat) (black white mean : Rgb Nat) :
    (s.routeSummary l f black white mean).slotView = s.slotView := by
  simp only [State.routeSummary, State.addToSegment]
  split
  · simp
  · split
    · split <;> simp
    · rfl

/-! ### Lookups (chapter 8) -/

@[simp] theorem dispose_slotView (deal : Deferral → Disposal) : (s.dispose deal).slotView = s.slotView := rfl

@[simp] theorem recheck_slotView (concerned : Deferral → Bool) : (s.recheck concerned).slotView = s.slotView := rfl

@[simp] theorem recheckFrame_slotView : (s.recheckFrame before l).slotView = s.slotView := rfl

@[simp] theorem takeSummary_slotView (lane frame : Nat) (black white mean : Rgb Nat) :
    (s.takeSummary lane frame black white mean).slotView = s.slotView := by
  simp only [State.takeSummary, State.setStatus]
  split
  · rfl
  · split
    · rfl
    · split
      · rfl
      · split <;> simp

@[simp] theorem placeLookup_slotView (tag : Nat) (l : Lane) (f : Nat) : (s.placeLookup tag l f).slotView = s.slotView := by
  simp only [State.placeLookup, State.pushAnswer]
  split
  · rfl
  · rfl
  · split <;> rfl

@[simp] theorem takeLookup_slotView (tag lane frame : Nat) : (s.takeLookup tag lane frame).slotView = s.slotView := by
  simp only [State.takeLookup]
  split
  · rfl
  · split
    · rfl
    · split
      · rfl
      · split
        · rfl
        · simp

/-! ### The closing, up to its reel's state (R152, R153) -/

@[simp] theorem stopRegradeAt_slotView (i : Slot) : (s.stopRegradeAt i).slotView = s.slotView := by
  simp only [State.stopRegradeAt]
  split
  · rfl
  · rename_i r hr
    split
    · rw [raise_slotView]; exact putSeg_slotView hr rfl
    · rfl

@[simp] theorem closeDeferrals_slotView : (s.closeDeferrals l).slotView = s.slotView := rfl

/-! ### The console (chapter 7) -/

@[simp] theorem bump_lane (r : Segment) : r.bump.lane = r.lane := rfl

theorem dropHold_lane (r : Segment) : r.dropHold.lane = r.lane := by
  simp only [Segment.dropHold]
  split <;> rfl

variable {s} in
theorem takeSegment_slotView {i : Slot} {r : Segment} (hr : s.seg i = some r) :
    (s.takeSegment i r).slotView = s.slotView := by
  simp only [State.takeSegment]
  split
  · rw [ok_slotView]; exact putSeg_slotView hr rfl
  · rw [ok_slotView]; exact putSeg_slotView hr rfl
  · rw [ok_slotView, raise_slotView]; exact putSeg_slotView hr rfl
  · split
    · rw [reply_slotView]; exact putSeg_slotView hr rfl
    · simp only [State.takeQueued, ok_slotView, recheck_slotView, raise_slotView]
      exact putSeg_slotView (q := r.takenQueued) hr rfl

end

end Sys2Proof.Machine
end

section
/-! PROOFS. Every step keeps the laws of the Free List and the chains (O56). -/

namespace Sys2Proof.Machine

section
variable {s : State} {l : Lane}

/-! ### Reel states and allocation (R2, R22) -/

/-- A write of a lane that keeps its chain keeps the laws, where an EMPTY or LOADED reel has no chain. -/
theorem SlotLaws.onLane {f : LaneState → LaneState} (h : SlotLaws s) (hc : (f (s.lane l)).reel.chain = s.chain l)
    (hs : (f (s.lane l)).reel.state = .empty ∨ (f (s.lane l)).reel.state = .loaded → s.chain l = []) :
    SlotLaws (s.onLane l f) := by
  have chain : (s.onLane l f).chain = s.chain := funext fun m => by
    by_cases hm : m = l
    · subst hm; simp only [State.chain, onLane_lane]; exact hc
    · simp only [State.chain, onLane_lane_other _ _ _ _ hm]
  have state : (fun m => ((s.onLane l f).lane m).reel.state) =
      setAt (fun m => (s.lane m).reel.state) l (f (s.lane l)).reel.state :=
    eq_setAt _ _ _ (by rw [onLane_lane]) fun m hm => by rw [onLane_lane_other _ _ _ _ hm]
  have view : (s.onLane l f).slotView =
      { s.slotView with state := setAt s.slotView.state l (f (s.lane l)).reel.state } := by
    simp only [State.slotView, chain, state]
    rfl
  exact slotLaws_iff.mpr (view ▸ (slotLaws_iff.mp h).restate hs)

/-- A record written with its slot placed in its lane's chain, on the view. -/
theorem install_slotView (j : Slot) {r : Segment} (hr : r.lane = l) (place : List Slot → List Slot) :
    (s.install l j r place).slotView = s.slotView.place l j place := by
  have chain : (s.install l j r place).chain = setAt s.chain l (place (s.chain l)) :=
    eq_setAt _ _ _ (by simp only [State.chain, install_lane]) fun m hm => by
      simp only [State.chain, install_lane_other _ _ _ _ _ _ hm]
  have lane : (fun i => ((s.install l j r place).seg i).map Segment.lane) =
      setAt (fun i => (s.seg i).map Segment.lane) j (some l) :=
    eq_setAt _ _ _ (by rw [install_seg, Option.map_some, hr]) fun i hi => by rw [install_seg_other _ _ _ _ _ _ hi]
  have state : (fun m => ((s.install l j r place).lane m).reel.state) = fun m => (s.lane m).reel.state := funext fun m => by
    by_cases hm : m = l
    · subst hm; rw [install_lane]
    · rw [install_lane_other _ _ _ _ _ _ hm]
  simp only [State.slotView, chain, lane, state]
  rfl

/-- An allocated slot whose record is written and placed in the chain keeps the laws; `u` is the state with the slot off the Free List, in which records may have changed within their lanes. -/
theorem SlotLaws.install {t u : State} {j : Slot} {r : Segment} {place : List Slot → List Slot} (h : SlotLaws s)
    (allocated : s.allocate l = some (j, t)) (hu : u.slotView = t.slotView) (hr : r.lane = l)
    (loaded : ¬s.slotView.Unloaded l) (perm : (place (s.chain l)).Perm (j :: s.chain l)) :
    SlotLaws (u.install l j r place) := by
  obtain ⟨rest, free, room, rfl⟩ := allocate_eq_some.mp allocated
  have kept := (slotLaws_iff.mp h).place free room loaded perm
  refine slotLaws_iff.mpr ?_
  rw [install_slotView j hr place, hu]
  exact kept

/-- A lane with an open segment has a reel that is neither EMPTY nor LOADED. -/
theorem SlotLaws.loaded_of_openSeg {i : Slot} {r : Segment} (h : SlotLaws s) (ho : s.openSeg l = some (i, r)) :
    ¬s.slotView.Unloaded l :=
  (slotLaws_iff.mp h).not_unloaded (List.ne_nil_of_mem (openSeg_mem_chain ho))

/-! ### Freeing and retirement (R4, R155-R158) -/

theorem SlotLaws.freeSlot (h : SlotLaws s) (i : Slot) : SlotLaws (s.freeSlot i) := by
  cases hi : s.seg i with
  | none => rw [freeSlot_of_free hi]; exact h
  | some r =>
    obtain ⟨gone, others, free, lane, otherLanes, -, -⟩ := freeSlot_of_seg hi
    have chain : (s.freeSlot i).chain = setAt s.chain r.lane ((s.chain r.lane).erase i) :=
      eq_setAt _ _ _ (by simp only [State.chain, lane]) fun m hm => by simp only [State.chain, otherLanes m hm]
    have seg : (fun k => ((s.freeSlot i).seg k).map Segment.lane) = setAt (fun k => (s.seg k).map Segment.lane) i none :=
      eq_setAt _ _ _ (by rw [gone, Option.map_none]) fun k hk => by rw [others k hk]
    have state : (fun m => ((s.freeSlot i).lane m).reel.state) = fun m => (s.lane m).reel.state := funext fun m => by
      by_cases hm : m = r.lane
      · subst hm; rw [lane]
      · rw [otherLanes m hm]
    have view : (s.freeSlot i).slotView = s.slotView.release r.lane i := by
      simp only [State.slotView, free, chain, seg, state]
      rfl
    exact slotLaws_iff.mpr (view ▸ (slotLaws_iff.mp h).release (by simp [State.slotView, hi]))

theorem SlotLaws.retireSlot (h : SlotLaws s) (i : Slot) : SlotLaws (s.retireSlot i) := by
  rcases retireSlot_cases s i with e | ⟨r, -, -, -, e⟩ <;> rw [e]
  · exact h
  · exact h.freeSlot i

theorem SlotLaws.retireChain (h : SlotLaws s) (named : Slot → Bool) (l : Lane) : SlotLaws (s.retireChain named l) := by
  refine List.foldlRecOn _ _ h fun t ht i _ => ?_
  split
  · exact ht.retireSlot i
  · exact ht

theorem SlotLaws.endClosing (h : SlotLaws s) (l : Lane) : SlotLaws (s.endClosing l) := by
  simp only [State.endClosing]
  split
  · rename_i ends
    exact (SlotLaws.onLane (l := l) h rfl fun _ => ends.2).of_slotView (raise_slotView _ _ _ _)
  · exact h

theorem SlotLaws.retireLane (h : SlotLaws s) (named : Slot → Bool) (l : Lane) : SlotLaws (s.retireLane named l) := by
  simp only [State.retireLane]
  split
  · exact (h.retireChain named l).endClosing l
  · exact h.retireChain named l

theorem SlotLaws.retire (h : SlotLaws s) (named : Slot → Bool) : SlotLaws (s.retire named) :=
  (((h.retireLane named 0).retireLane named 1).retireLane named 2).retireLane named 3

/-! ### The split, the first lock and the end of a reel (R44, R59, R89) -/

theorem SlotLaws.split {f : Nat} {position : Int} {kind : CandidateKind} {span : Nat} {acc : Accum} {t : State}
    (h : SlotLaws s) (made : s.split l f position kind span acc = some t) : SlotLaws t := by
  simp only [State.split] at made
  split at made
  · rename_i i r j u ho allocated
    have closed : ((u.closeSeg i (f - 1) (r.pitchTo f position)).onSeg i Segment.bump).slotView = u.slotView := by
      rw [onSeg_slotView _ _ _ bump_lane, closeSeg_slotView]
    have installed := fun q (hq : q.lane = l) => h.install (r := q) (place := (· ++ [j])) allocated closed hq
      (h.loaded_of_openSeg ho) (List.perm_append_singleton j (s.chain l))
    cases made
    split
    · exact SlotLaws.of_slotView (installed _ rfl) (by rw [settle_slotView, raise_slotView])
    · exact SlotLaws.of_slotView (installed _ rfl) (raise_slotView _ _ _ _)
  · cases made

theorem SlotLaws.enterEnded (h : SlotLaws s) (l : Lane) : SlotLaws (s.enterEnded l) := by
  have closed : SlotLaws ((s.teardownQueue l).closeOpen l) := h.of_slotView (by simp)
  simp only [State.enterEnded]
  refine SlotLaws.of_slotView (SlotLaws.onLane (l := l) ?_ ?_ ?_)
    ((dispose_slotView _ _).trans (raise_slotView _ l .runout (s.openSlot l)))
  · split
    · exact closed.of_slotView (revise_slotView _ _ _)
    · exact closed
  · rfl
  · exact fun hs => hs.elim nofun nofun

theorem SlotLaws.firstLock (h : SlotLaws s) (loaded : ¬s.slotView.Unloaded l) (a c : Int) : SlotLaws (s.firstLock l a c) := by
  simp only [State.firstLock]
  split
  · rename_i i t d allocated _
    have installed := h.install (r := startSegment l d (t.profile d.profile) a) (place := (· ++ [i])) allocated rfl rfl
      loaded (List.perm_append_singleton i (s.chain l))
    exact installed.of_slotView (by simp)
  · exact h.of_slotView (by simp)

/-! ### The reel commands (R28, R32-R34, R152) -/

theorem SlotLaws.load (h : SlotLaws s) (d : ReelLoad) (empty : (s.lane l).reel.state = .empty) :
    SlotLaws (s.onReel l fun _ => { state := .loaded, load := some d, chain := [] }) := by
  have none := h.unloaded l (Or.inl empty)
  exact SlotLaws.onLane (l := l) h none.symm fun _ => none

theorem SlotLaws.unloadLoaded (h : SlotLaws s) (loaded : (s.lane l).reel.state = .loaded) : SlotLaws (s.unloadLoaded l) :=
  (SlotLaws.onLane (l := l) h rfl fun _ => h.unloaded l (Or.inr loaded)).of_slotView (raise_slotView _ _ _ _)

theorem SlotLaws.beginClosing (h : SlotLaws s) (l : Lane) : SlotLaws (s.beginClosing l) := by
  have closing : ∀ u : State, SlotLaws u →
      SlotLaws (u.onLane l fun d => { d with reel := { d.reel with state := .closing }, duty := 0 }) :=
    fun u hu => hu.onLane rfl fun hs => hs.elim nofun nofun
  simp only [State.beginClosing]
  refine closing _ (h.of_slotView ?_)
  rw [foldl_slotView _ _ fun t i => onSeg_slotView t i (fun r => { r with life := .retiring }) fun _ => rfl,
    foldl_slotView _ _ fun t i => revise_slotView t s i, foldl_slotView _ _ stopRegradeAt_slotView]
  simp

theorem SlotLaws.closeReel (h : SlotLaws s) (l : Lane) : SlotLaws (s.closeReel l) :=
  (((h.beginClosing l).of_slotView (closeDeferrals_slotView _ l)).retireChain _ l).endClosing l

/-- The freeing of a whole chain, head first, leaves it empty. -/
theorem SlotLaws.freeChain (h : SlotLaws s) {is : List Slot} (hi : s.chain l = is) :
    SlotLaws (is.foldl State.freeSlot s) ∧ (is.foldl State.freeSlot s).chain l = [] := by
  induction is generalizing s with
  | nil => exact ⟨h, hi⟩
  | cons i rest ih =>
    obtain ⟨r, hr, lane⟩ := Option.map_eq_some_iff.mp (h.chained l i (by simp [hi]))
    subst lane
    refine ih (h.freeSlot i) ?_
    have lane := (freeSlot_of_seg hr).2.2.2.1
    have chain : (s.freeSlot i).chain r.lane = (s.chain r.lane).erase i := by simp only [State.chain, lane]
    rw [chain, hi, List.erase_cons_head]

theorem SlotLaws.laneReset (h : SlotLaws s) (l : Lane) : SlotLaws (s.laneReset l) := by
  obtain ⟨laws, empty⟩ := SlotLaws.freeChain (l := l)
    (h.of_slotView (dispose_slotView s fun e =>
      if e.lane = l then .answer (s.plainAnswer e.tag e.lane e.frame .closed) else .keep e)) rfl
  exact (laws.onLane (f := LaneState.cleared) empty.symm fun _ => empty).of_slotView (engineBegin_slotView _)

/-! ### The console's requests (chapter 7) -/

theorem SlotLaws.dropHolds (h : SlotLaws s) (named : Slot → Bool) (notice : PartKind) (slot : Option Slot) :
    SlotLaws (s.dropHolds named notice slot) := by
  simp only [State.dropHolds]
  have dropped := h.of_slotView (withSegments_slotView s
    (Vector.ofFn fun i => if (named i && s.heldByConsole i) = true then (s.seg i).map Segment.dropHold else s.seg i)
    fun i => by
      rw [Vector.getElem_ofFn]
      split
      · cases s.seg i <;> simp [dropHold_lane]
      · rfl)
  split
  · exact (dropped.of_slotView (raisePart_slotView _ notice slot)).retire _
  · exact dropped

/-- A slot inserted after one of the chain is one more of the chain. -/
theorem insertAfter_perm {i j : Slot} {chain : List Slot} (h : i ∈ chain) : (insertAfter i j chain).Perm (j :: chain) := by
  induction chain with
  | nil => cases h
  | cons k rest ih =>
    simp only [insertAfter]
    split
    · exact List.Perm.swap j k rest
    · rename_i hk
      have hi : i ∈ rest := (List.mem_cons.mp h).resolve_left fun e => hk e.symm
      exact ((ih hi).cons k).trans (List.Perm.swap j k rest)

theorem SlotLaws.cutSegment {i j : Slot} {a : Segment} {t : State} (h : SlotLaws s) (ha : s.seg i = some a) (frame : Nat)
    (allocated : s.allocate a.lane = some (j, t)) : SlotLaws (t.cutSegment i j a frame) := by
  have inChain : i ∈ s.chain a.lane := (slotLaws_iff.mp h).mem_chain (by simp [State.slotView, ha])
  have written : (t.putSeg i (some ({ a with last := some (frame - 1) } : Segment).bump)).slotView = t.slotView := by
    obtain ⟨rest, -, -, rfl⟩ := allocate_eq_some.mp allocated
    exact putSeg_slotView (s := { s with freeList := rest }) (r := a) ha rfl
  have loaded := (slotLaws_iff.mp h).not_unloaded (l := a.lane) (List.ne_nil_of_mem inChain)
  have installed := h.install (j := j) (l := a.lane)
    (r := a.secondPart (((t.lane a.lane).reel.load.map ReelLoad.profile).getD a.profile) frame (t.lastCovered a))
    allocated written rfl loaded (insertAfter_perm inChain)
  simp only [State.cutSegment]
  refine SlotLaws.of_slotView ?_ (recheck_slotView _ _)
  split
  · exact installed.of_slotView (setQueue_slotView _ _ _)
  · exact installed

theorem SlotLaws.joinSegments {i j : Slot} {a b : Segment} (h : SlotLaws s) (ha : s.seg i = some a) :
    SlotLaws (s.joinSegments i j a b) :=
  ((h.of_slotView (putSeg_slotView (q := a.joined b) ha rfl)).freeSlot j).of_slotView (recheck_slotView _ _)

/-! ### Grading and lookups -/

/-- A completion writes a record of its lane. -/
theorem completed_lane (r : Segment) (p : Profile) : (r.completed p).lane = r.lane := by
  simp only [Segment.completed]
  split <;> rfl

theorem SlotLaws.complete (h : SlotLaws s) : SlotLaws s.complete := by
  simp only [State.complete]
  split
  · exact h
  · split
    · exact SlotLaws.of_slotView (h.of_slotView rfl) (engineBegin_slotView { s with engine := none })
    · rename_i i _ _ r hr
      have written : SlotLaws (s.putSeg i (some (r.completed (s.profile r.profile)))) :=
        h.of_slotView (putSeg_slotView hr (completed_lane r _))
      have noticed : ∀ u : State, (u.completionNotices i r).slotView = u.slotView := fun u => by
        simp only [State.completionNotices]
        split <;> split <;> simp
      have next : SlotLaws ({ (s.putSeg i (some (r.completed (s.profile r.profile)))).completionNotices i r with
          engine := none }.engineBegin) :=
        (written.of_slotView (noticed _)).of_slotView (engineBegin_slotView _)
      exact (next.of_slotView (recheck_slotView _ _)).retire _

theorem SlotLaws.disableLink (h : SlotLaws s) : SlotLaws s.disableLink := (h.of_slotView (onLookup_slotView s _)).retire _

theorem SlotLaws.expireEntry (h : SlotLaws s) (e : Deferral) : SlotLaws (s.expireEntry e) :=
  (h.of_slotView (by rw [raisePart_slotView, onLookup_slotView])).retire _

theorem SlotLaws.expire (h : SlotLaws s) : SlotLaws s.expire := by
  simp only [State.expire]
  split
  · exact h
  · exact h.expireEntry _

theorem SlotLaws.deferralTick (h : SlotLaws s) : SlotLaws s.deferralTick :=
  SlotLaws.of_slotView (List.foldlRecOn _ _ h fun _ ht e _ => ht.expireEntry e) (onLookup_slotView _ _)

theorem SlotLaws.leaseExpiry (h : SlotLaws s) : SlotLaws s.leaseExpiry :=
  SlotLaws.dropHolds (s := { s with lease := none }) (h.of_slotView rfl) _ _ _

theorem SlotLaws.leaseTick (h : SlotLaws s) : SlotLaws s.leaseTick := by
  simp only [State.leaseTick]
  split
  · exact h
  · split
    · exact h.leaseExpiry
    · exact h.of_slotView rfl

end

/-! ### Power-on and every step -/

@[simp] theorem reset_seg (i : Slot) : State.reset.seg i = none := by simp [State.reset, State.seg]

@[simp] theorem reset_lane (l : Lane) : State.reset.lane l = LaneState.reset := by simp [State.reset, State.lane]

@[simp] theorem reset_chain (l : Lane) : State.reset.chain l = [] := by simp [State.chain, LaneState.reset]

theorem reset_slotLaws : SlotLaws State.reset where
  conserved := by
    have free : State.reset.freeList = List.finRange 160 := rfl
    simp [State.chains, free]
  bounded l := by simp
  freed i _ := reset_seg i
  chained l i hi := by simp at hi
  unloaded l _ := reset_chain l

/-- The acts of the film side keep the laws of the Free List and the chains, which ask nothing of the Candidate Queues. -/
theorem slotLaws_keptByFilm : KeptByFilm SlotLaws fun _ => True where
  unseen hv h := h.of_slotView (slotView_of_lawView hv)
  sublist _ _ := trivial
  counted _ := trivial
  fresh _ := trivial
  queued _ _ := trivial
  setQueue _ _ h _ := h.of_slotView (setQueue_slotView _ _ _)
  handBack _ _ h := h.of_slotView (handBack_slotView _ _ _)
  split h _ made := h.split made
  countFrames _ _ _ h := h.of_slotView (countFrames_slotView _ _ _ _)
  revise _ _ h := h.of_slotView (revise_slotView _ _ _)
  recheck _ h := h.of_slotView (recheck_slotView _ _)
  arrive _ _ h _ := h.of_slotView (arrive_slotView _ _ _)
  firstLock a c h scanning := h.firstLock (by simp [SlotView.Unloaded, State.slotView, scanning]) a c
  enterEnded l h := h.enterEnded l

/-- The effects of the commands keep the laws of the Free List and the chains. -/
theorem slotLaws_keptByEffects : KeptByEffects SlotLaws where
  unseen hv h := h.of_slotView (slotView_of_lawView hv)
  powerOn := reset_slotLaws
  partReset _ := reset_slotLaws.of_slotView rfl
  load d h empty := h.load d empty
  restate f h chain _ state := h.onLane chain fun hs => by rcases state with e | e <;> simp [e] at hs
  unloadLoaded h loaded := h.unloadLoaded loaded
  closeReel h _ := h.closeReel _
  laneReset l h := h.laneReset l
  relayout _ h _ _ _ := h.of_slotView rfl
  enable _ _ h _ := h.of_slotView rfl
  disableLink h := h.disableLink
  setTimers _ _ _ h _ _ _ := h.of_slotView rfl
  reloadLease h := h.of_slotView rfl
  dropHolds named notice slot h := h.dropHolds named notice slot
  takeSegment h hr _ _ _ := h.of_slotView (takeSegment_slotView hr)
  release h hr _ := (h.of_slotView (by rw [raisePart_slotView]; exact putSeg_slotView hr rfl)).retire _
  consoleWrite _ _ _ _ _ _ _ _ h hr _ := h.of_slotView (putSeg_slotView hr rfl)
  cut h ha _ _ _ allocated := h.cutSegment ha _ allocated
  join h ha _ _ _ _ _ := h.joinSegments ha
  regrade h hr _ _ _ := h.of_slotView (putSeg_slotView hr rfl)
  deliver _ _ h := h.of_slotView rfl
  takeLookup _ _ _ h := h.of_slotView (takeLookup_slotView _ _ _ _)
  takeSummary _ _ _ _ _ h := h.of_slotView (takeSummary_slotView _ _ _ _ _ _)
  perfWord l position strength h := slotLaws_keptByFilm.perfWord_kept h l position strength
  spliceWord l position kind h := slotLaws_keptByFilm.spliceWord_kept h l position kind
  travelWord l position h := slotLaws_keptByFilm.travelWord_kept h l position
  runoutWord l position h := slotLaws_keptByFilm.runoutWord_kept h l position
  complete h := h.complete
  deferralTick h := h.deferralTick
  expire h := h.expire
  leaseTick h := h.leaseTick
  leaseExpiry h := h.leaseExpiry

/-- Settles O56: each effect keeps the laws, by its slot view or by the placing and the freeing of one slot. -/
theorem slotLawsKept : Obligations.SlotLawsKept :=
  fun _ t h next => slotLaws_keptByEffects.step_kept h t next

end Sys2Proof.Machine
end

section
/-! PROOFS. Every step keeps the laws of the records, the Candidate Queues and the lease timer (O59). -/

namespace Sys2Proof.Machine

/-! ### One record and one queue -/

/-- The laws of one Candidate Queue (R77, R78). -/
def QueueLaws (q : List Candidate) : Prop := q.length ≤ 2 ∧ ∀ e ∈ q, CandidateLaws e

theorem queueLaws_nil : QueueLaws [] := ⟨by simp, by simp⟩

theorem queueLaws_singleton {e : Candidate} : QueueLaws [e] ↔ CandidateLaws e := by simp [QueueLaws]

theorem QueueLaws.sublist {q q' : List Candidate} (h : QueueLaws q) (hs : q'.Sublist q) : QueueLaws q' :=
  ⟨Nat.le_trans hs.length_le h.1, fun e he => h.2 e (hs.subset he)⟩

/-- A frame counted keeps the span in its range (R77, R85). -/
theorem CandidateLaws.countFrame {e : Candidate} (h : CandidateLaws e) : CandidateLaws e.countFrame := by
  simp only [Candidate.countFrame]
  split
  · exact ⟨addSaturating_le _ _, h.2⟩
  · exact h

theorem QueueLaws.countFrame {q : List Candidate} (h : QueueLaws q) : QueueLaws (q.map Candidate.countFrame) := by
  refine ⟨by simpa using h.1, fun e he => ?_⟩
  obtain ⟨d, hd, rfl⟩ := List.mem_map.mp he
  exact (h.2 d hd).countFrame

theorem Candidate.Fresh.laws {e : Candidate} (h : e.Fresh) : CandidateLaws e :=
  ⟨h.2, by rw [h.1]; exact Nat.zero_le _⟩

/-- A merged tail takes its span and accumulator from the tail, or from the arriving candidate and empty (R82). -/
theorem CandidateLaws.mergeInto {tail c : Candidate} (ht : CandidateLaws tail) (hc : c.Fresh) :
    CandidateLaws (tail.mergeInto c) := by
  simp only [Candidate.mergeInto]
  split
  · exact ⟨hc.2, Nat.zero_le _⟩
  · exact ht

/-- A summary routed to a candidate is added only where fewer than 64 are held (R83). -/
theorem QueueLaws.routeToCandidate {f : Nat} {black white mean : Rgb Nat} {q q' : List Candidate} (h : QueueLaws q)
    (routed : routeToCandidate f black white mean q = some q') : QueueLaws q' := by
  have key : ∀ {q q' : List Candidate}, (∀ e ∈ q, CandidateLaws e) →
      Machine.routeToCandidate f black white mean q = some q' → q'.length = q.length ∧ ∀ e ∈ q', CandidateLaws e := by
    intro q
    induction q with
    | nil => intro q' _ routed; cases routed
    | cons e rest ih =>
      intro q' hq routed
      obtain ⟨he, hr⟩ := List.forall_mem_cons.mp hq
      simp only [Machine.routeToCandidate] at routed
      split at routed
      · rename_i rest' inRest
        cases routed
        obtain ⟨length, laws⟩ := ih hr inRest
        exact ⟨by simp [length], List.forall_mem_cons.mpr ⟨he, laws⟩⟩
      · split at routed
        · cases routed
          refine ⟨rfl, List.forall_mem_cons.mpr ⟨?_, hr⟩⟩
          split
          · rename_i few; exact ⟨he.1, few⟩
          · exact he
        · cases routed
  obtain ⟨length, laws⟩ := key h.2 routed
  exact ⟨length ▸ h.1, laws⟩

/-- The laws of a record read its revision, its two counts and the count of its accumulator. -/
theorem SegmentLaws.congr {r q : Segment} (h : SegmentLaws r) (revision : q.revision = r.revision)
    (perforations : q.perforations = r.perforations) (coasts : q.coasts = r.coasts) (acc : q.acc = r.acc) :
    SegmentLaws q := by
  simp only [SegmentLaws, revision, perforations, coasts, acc]
  exact h

theorem SegmentLaws.revise {r : Segment} {n : Nat} (h : SegmentLaws r) (hn : n ≤ Config.revisionMax) :
    SegmentLaws { r with revision := nextRevision n } :=
  ⟨(nextRevision_range hn).1, (nextRevision_range hn).2, h.2.2⟩

theorem SegmentLaws.revision_le {r : Segment} (h : SegmentLaws r) : r.revision ≤ Config.revisionMax := h.2.1

theorem SegmentLaws.bump {r : Segment} (h : SegmentLaws r) : SegmentLaws r.bump := h.revise h.revision_le

theorem SegmentLaws.withAcc {r : Segment} {a : Accum} (h : SegmentLaws r) (ha : a.count ≤ Config.summariesMax) :
    SegmentLaws { r with acc := a } := by
  obtain ⟨low, high, perforations, coasts, -⟩ := h
  exact ⟨low, high, perforations, coasts, ha⟩

theorem settled_counts (r : Segment) (p : Profile) :
    (r.settled p).perforations = r.perforations ∧ (r.settled p).coasts = r.coasts := by
  simp only [Segment.settled]
  split <;> exact ⟨rfl, rfl⟩

theorem SegmentLaws.settled {r : Segment} (h : SegmentLaws r) (p : Profile) : SegmentLaws (r.settled p) := by
  obtain ⟨-, -, -, -, -, -, -, -, acc, revision⟩ := settled_keeps r p
  exact h.congr revision (settled_counts r p).1 (settled_counts r p).2 acc

theorem SegmentLaws.completed {r : Segment} (h : SegmentLaws r) (p : Profile) : SegmentLaws (r.completed p) := by
  simp only [Segment.completed]
  refine SegmentLaws.bump ?_
  split <;> exact h

theorem SegmentLaws.dropHold {r : Segment} (h : SegmentLaws r) : SegmentLaws r.dropHold := by
  simp only [Segment.dropHold]
  split
  · exact SegmentLaws.bump h
  · exact h

/-- The segment that a split opens has revision 1, and the span and accumulator of its candidate (R91). -/
theorem opened_segmentLaws (closed : Segment) (l : Lane) (p : ProfileNo) (prof : Profile) (f : Nat) (position : Int)
    (kind : CandidateKind) (span : Nat) {acc : Accum} (pitch : Nat) (ha : acc.count ≤ Config.summariesMax) :
    SegmentLaws { closed.opened l p prof f position kind span acc with pitch := pitch } :=
  ⟨Nat.le_refl 1, show 1 ≤ Config.revisionMax by decide, addSaturating_le _ _, Nat.zero_le _, ha⟩

theorem startSegment_laws (l : Lane) (d : ReelLoad) (prof : Profile) (a : Int) : SegmentLaws (startSegment l d prof a) :=
  ⟨Nat.le_refl 1, show 1 ≤ Config.revisionMax by decide, show 3 ≤ Config.countMax by decide, Nat.zero_le _, Nat.zero_le _⟩

theorem secondPart_laws (a : Segment) (p : ProfileNo) (f last : Nat) : SegmentLaws (a.secondPart p f last) :=
  ⟨Nat.le_refl 1, show 1 ≤ Config.revisionMax by decide, Nat.min_le_left _ _, Nat.zero_le _, Nat.zero_le _⟩

theorem SegmentLaws.joined {a : Segment} (h : SegmentLaws a) (b : Segment) : SegmentLaws (a.joined b) := by
  obtain ⟨low, high, -, -, acc⟩ := h
  exact SegmentLaws.bump ⟨low, high, addSaturating_le _ _, addSaturating_le _ _, acc⟩

/-! ### Single writes -/

section
variable {s : State} {l : Lane}

theorem RecordLaws.queue (h : RecordLaws s) (l : Lane) : QueueLaws (s.lane l).queue := ⟨h.queues l, h.candidates l⟩

/-- The laws pass to a state with good records and queues and the same lease. -/
theorem RecordLaws.of_parts {t : State} (h : RecordLaws s) (segments : ∀ i r, t.seg i = some r → SegmentLaws r)
    (queues : ∀ m, QueueLaws (t.lane m).queue) (length : t.leaseLength = s.leaseLength) (lease : t.lease = s.lease) :
    RecordLaws t :=
  ⟨segments, fun m => (queues m).1, fun m => (queues m).2, length ▸ h.leaseLength, lease ▸ h.lease⟩

/-- The laws pass between two states with the same records, queues and lease. -/
theorem RecordLaws.congr {t : State} (h : RecordLaws s) (segments : t.segments = s.segments)
    (queues : ∀ m, (t.lane m).queue = (s.lane m).queue) (length : t.leaseLength = s.leaseLength)
    (lease : t.lease = s.lease) : RecordLaws t :=
  h.of_parts (fun i r hr => h.segments i r (by simpa only [State.seg, segments] using hr)) (fun m => queues m ▸ h.queue m)
    length lease

theorem RecordLaws.of_lawView {t : State} (hv : t.lawView = s.lawView) (h : RecordLaws s) : RecordLaws t :=
  h.congr (congrArg LawView.segments hv) (congrFun (congrArg LawView.queue hv)) (congrArg LawView.leaseLength hv)
    (congrArg LawView.lease hv)

theorem RecordLaws.onLane (h : RecordLaws s) {f : LaneState → LaneState} (hq : QueueLaws (f (s.lane l)).queue) :
    RecordLaws (s.onLane l f) := by
  refine h.of_parts h.segments (fun m => ?_) rfl rfl
  by_cases hm : m = l
  · subst hm; rw [onLane_lane]; exact hq
  · rw [onLane_lane_other _ _ _ _ hm]; exact h.queue m

/-- A write of a lane that keeps its queue keeps the laws. -/
theorem RecordLaws.onLane_same (h : RecordLaws s) {f : LaneState → LaneState}
    (hq : (f (s.lane l)).queue = (s.lane l).queue) : RecordLaws (s.onLane l f) := h.onLane (hq ▸ h.queue l)

theorem RecordLaws.setQueue (h : RecordLaws s) (l : Lane) {q : List Candidate} (hq : QueueLaws q) :
    RecordLaws (s.setQueue l q) := h.onLane hq

theorem RecordLaws.withSegments (h : RecordLaws s) (v : Vector (Option Segment) 160)
    (hv : ∀ (i : Slot) r, v[i.val] = some r → SegmentLaws r) : RecordLaws { s with segments := v } :=
  h.of_parts hv h.queue rfl rfl

theorem RecordLaws.putSeg (h : RecordLaws s) (i : Slot) {r : Segment} (hr : SegmentLaws r) :
    RecordLaws (s.putSeg i (some r)) := by
  refine h.withSegments _ fun j q hq => ?_
  by_cases hj : j = i
  · subst hj; rw [update_same] at hq; cases hq; exact hr
  · rw [update_other _ _ _ _ hj] at hq; exact h.segments j q hq

theorem RecordLaws.onSeg (h : RecordLaws s) (i : Slot) {f : Segment → Segment}
    (hf : ∀ r, SegmentLaws r → SegmentLaws (f r)) : RecordLaws (s.onSeg i f) := by
  refine h.withSegments _ fun j q hq => ?_
  by_cases hj : j = i
  · subst hj
    rw [update_same] at hq
    obtain ⟨r, hr, rfl⟩ := Option.map_eq_some_iff.mp hq
    exact hf r (h.segments j r hr)
  · rw [update_other _ _ _ _ hj] at hq; exact h.segments j q hq

theorem RecordLaws.onLookup (h : RecordLaws s) (f : LookupUnit → LookupUnit) : RecordLaws (s.onLookup f) :=
  h.congr rfl (fun _ => rfl) rfl rfl

theorem RecordLaws.dispose (h : RecordLaws s) (deal : Deferral → Disposal) : RecordLaws (s.dispose deal) := h.onLookup _

theorem RecordLaws.recheck (h : RecordLaws s) (concerned : Deferral → Bool) : RecordLaws (s.recheck concerned) :=
  h.dispose _

theorem RecordLaws.engineBegin (h : RecordLaws s) : RecordLaws s.engineBegin := by
  rw [engineBegin_eq]; exact h.congr rfl (fun _ => rfl) rfl rfl

theorem RecordLaws.enqueue (h : RecordLaws s) (i : Slot) : RecordLaws (s.enqueue i) := by
  rw [enqueue_eq]; exact h.congr rfl (fun _ => rfl) rfl rfl

theorem RecordLaws.raise (h : RecordLaws s) (l : Lane) (k : LaneKind) (o : Option Slot) : RecordLaws (s.raise l k o) :=
  h.of_lawView (raise_lawView _ _ _ _)

theorem RecordLaws.revise {before : State} (hb : RecordLaws before) (h : RecordLaws s) (i : Slot) :
    RecordLaws (s.revise before i) := by
  rcases revise_cases s before i with e | ⟨a, ha, e⟩ <;> rw [e]
  · exact h
  · exact h.onSeg i fun r hr => hr.revise (hb.segments i a ha).revision_le

/-! ### Settling, closing and counting (R20, R21, R68) -/

theorem RecordLaws.settle (h : RecordLaws s) (i : Slot) (pitch : Nat) : RecordLaws (s.settle i pitch) := by
  simp only [State.settle]
  split
  · exact h
  · rename_i r hr
    have written := h.putSeg i (SegmentLaws.settled (r := { r with pitch := pitch }) (h.segments i r hr) (s.profile r.profile))
    split
    · exact written.enqueue i
    · exact (written.raise _ _ _).raise _ _ _
    · exact written.raise _ _ _

theorem RecordLaws.closeSeg (h : RecordLaws s) (i : Slot) (last pitch : Nat) : RecordLaws (s.closeSeg i last pitch) := by
  simp only [State.closeSeg]
  split
  · exact h
  · rename_i r hr
    have written := h.putSeg i (r := { r with last := some last }) (h.segments i r hr)
    split
    · exact written.settle i pitch
    · exact written

theorem RecordLaws.closeOpen (h : RecordLaws s) (l : Lane) : RecordLaws (s.closeOpen l) := by
  simp only [State.closeOpen]
  split
  · exact h.of_lawView (setMeasure_lawView _ _ _)
  · exact (h.closeSeg _ _ _).of_lawView (setMeasure_lawView _ _ _)

theorem RecordLaws.countFrames (h : RecordLaws s) (l : Lane) (perforations coasts : Nat) :
    RecordLaws (s.countFrames l perforations coasts) := by
  simp only [State.countFrames]
  split
  · exact h
  · rename_i i r ho
    obtain ⟨low, high, -, -, acc⟩ := h.segments i r (openSeg_eq_some ho).1
    have counted : SegmentLaws { r with
        perforations := addSaturating r.perforations perforations, coasts := addSaturating r.coasts coasts } :=
      ⟨low, high, addSaturating_le _ _, addSaturating_le _ _, acc⟩
    split
    · split
      · exact (h.putSeg i counted).settle i _
      · exact h.putSeg i counted
    · exact h.putSeg i counted

/-! ### Accumulators, candidates and the split (chapter 5) -/

theorem RecordLaws.accumulate (h : RecordLaws s) (i : Slot) {acc : Accum} (ha : acc.count ≤ Config.summariesMax) :
    RecordLaws (s.accumulate i acc) := by
  simp only [State.accumulate]
  split
  · exact h
  · rename_i r hr
    have added := (h.segments i r hr).withAcc ha
    split
    · exact (h.putSeg i (r := { r with acc := acc, phase := .computing }) added).enqueue i
    · exact h.putSeg i added

theorem RecordLaws.handBack (h : RecordLaws s) (l : Lane) (acc : Accum) : RecordLaws (s.handBack l acc) := by
  simp only [State.handBack]
  split
  · exact h
  · split
    · rename_i fits; exact h.accumulate _ fits.2.2
    · exact h

theorem RecordLaws.teardownQueue (h : RecordLaws s) (l : Lane) : RecordLaws (s.teardownQueue l) :=
  RecordLaws.setQueue (List.foldlRecOn _ _ h fun _ ht e _ => ht.handBack l e.acc) l queueLaws_nil

theorem RecordLaws.arrive (h : RecordLaws s) (l : Lane) {c : Candidate} (hc : c.Fresh) : RecordLaws (s.arrive l c) := by
  simp only [State.arrive]
  split
  · exact h
  · split
    · exact h
    · split
      · exact h.setQueue l (queueLaws_singleton.mpr hc.laws)
      · rename_i tail htail
        obtain ⟨short, laws⟩ := h.queue l
        have tailLaws := laws tail (List.mem_of_getLast? htail)
        split
        · refine RecordLaws.setQueue ?_ l ⟨?_, ?_⟩
          · split
            · exact h.handBack l _
            · exact h
          · simp; omega
          · intro e he
            rcases List.mem_append.mp he with front | merged
            · exact laws e ((List.dropLast_sublist _).subset front)
            · rw [List.mem_singleton.mp merged]; exact tailLaws.mergeInto hc
        · split
          · exact h.setQueue l ⟨by simp, by simp [tailLaws, hc.laws]⟩
          · exact h

theorem RecordLaws.allocate {t : State} {j : Slot} (h : RecordLaws s) (allocated : s.allocate l = some (j, t)) :
    RecordLaws t := by
  obtain ⟨rest, -, -, rfl⟩ := allocate_eq_some.mp allocated
  exact h.congr rfl (fun _ => rfl) rfl rfl

theorem RecordLaws.install (h : RecordLaws s) (l : Lane) (i : Slot) {r : Segment} (hr : SegmentLaws r)
    (place : List Slot → List Slot) : RecordLaws (s.install l i r place) := (h.putSeg i hr).onLane_same rfl

theorem RecordLaws.split {t : State} {f : Nat} {position : Int} {kind : CandidateKind} {span : Nat} {acc : Accum}
    (h : RecordLaws s) (ha : acc.count ≤ Config.summariesMax) (made : s.split l f position kind span acc = some t) :
    RecordLaws t := by
  simp only [State.split] at made
  split at made
  · rename_i i r j u _ allocated
    have closed := ((h.allocate allocated).closeSeg i (f - 1) (r.pitchTo f position)).onSeg i fun _ hq => hq.bump
    have installed := fun q (hq : SegmentLaws q) => (closed.install l j hq (· ++ [j])).raise l .splitMade (some j)
    cases made
    split
    · exact RecordLaws.settle (installed _ (opened_segmentLaws _ _ _ _ _ _ _ _ _ ha)) j _
    · exact installed _ (opened_segmentLaws _ _ _ _ _ _ _ _ _ ha)
  · cases made

/-! ### The first lock and the end of a reel (R44, R59) -/

theorem RecordLaws.firstLock (h : RecordLaws s) (l : Lane) (a c : Int) : RecordLaws (s.firstLock l a c) := by
  simp only [State.firstLock]
  split
  · rename_i i t d allocated _
    have installed := (h.allocate allocated).install l i (startSegment_laws l d (t.profile d.profile) a) (· ++ [i])
    exact RecordLaws.recheck (installed.of_lawView (by simp)) _
  · exact h.of_lawView (by simp)

theorem RecordLaws.enterEnded (h : RecordLaws s) (l : Lane) : RecordLaws (s.enterEnded l) := by
  have closed := (h.teardownQueue l).closeOpen l
  simp only [State.enterEnded]
  refine RecordLaws.dispose (RecordLaws.raise (RecordLaws.onLane_same ?_ ?_) l .runout _) _
  · split
    · exact h.revise closed _
    · exact closed
  · rfl

/-- The acts of the film side keep the laws of the records, each Candidate Queue meeting QueueLaws. -/
theorem recordLaws_keptByFilm : KeptByFilm RecordLaws QueueLaws where
  unseen := RecordLaws.of_lawView
  sublist := QueueLaws.sublist
  counted := QueueLaws.countFrame
  fresh he := queueLaws_singleton.mpr he.laws
  queued l h := h.queue l
  setQueue l _ h hq := h.setQueue l hq
  handBack l acc h := h.handBack l acc
  split h he made := h.split (queueLaws_singleton.mp he).2 made
  countFrames l perforations coasts h := h.countFrames l perforations coasts
  revise i hb h := hb.revise h i
  recheck concerned h := h.recheck concerned
  arrive l _ h hc := h.arrive l hc
  firstLock a c h _ := h.firstLock _ a c
  enterEnded l h := h.enterEnded l

/-! ### Freeing and retirement (R4, R155-R158) -/

theorem RecordLaws.freeSlot (h : RecordLaws s) (i : Slot) : RecordLaws (s.freeSlot i) := by
  cases hi : s.seg i with
  | none => rw [freeSlot_of_free hi]; exact h
  | some r =>
    obtain ⟨gone, others, -, lane, otherLanes, -, -⟩ := freeSlot_of_seg hi
    have settings := freeSlot_settings s i
    refine h.of_parts (fun j q hq => ?_) (fun m => ?_) (congrArg Settings.leaseLength settings)
      (congrArg Settings.lease settings)
    · by_cases hj : j = i
      · subst hj; rw [gone] at hq; cases hq
      · rw [others j hj] at hq; exact h.segments j q hq
    · by_cases hm : m = r.lane
      · subst hm; rw [lane]; exact h.queue r.lane
      · rw [otherLanes m hm]; exact h.queue m

theorem RecordLaws.retireSlot (h : RecordLaws s) (i : Slot) : RecordLaws (s.retireSlot i) := by
  rcases retireSlot_cases s i with e | ⟨r, -, -, -, e⟩ <;> rw [e]
  · exact h
  · exact h.freeSlot i

theorem RecordLaws.retireChain (h : RecordLaws s) (named : Slot → Bool) (l : Lane) :
    RecordLaws (s.retireChain named l) := by
  refine List.foldlRecOn _ _ h fun t ht i _ => ?_
  split
  · exact ht.retireSlot i
  · exact ht

theorem RecordLaws.endClosing (h : RecordLaws s) (l : Lane) : RecordLaws (s.endClosing l) := by
  simp only [State.endClosing]
  split
  · exact (h.onLane_same rfl).raise l _ _
  · exact h

theorem RecordLaws.retireLane (h : RecordLaws s) (named : Slot → Bool) (l : Lane) : RecordLaws (s.retireLane named l) := by
  simp only [State.retireLane]
  split
  · exact (h.retireChain named l).endClosing l
  · exact h.retireChain named l

theorem RecordLaws.retire (h : RecordLaws s) (named : Slot → Bool) : RecordLaws (s.retire named) :=
  (((h.retireLane named 0).retireLane named 1).retireLane named 2).retireLane named 3

/-! ### The closing and the reset of a lane (R33, R152) -/

theorem RecordLaws.stopRegradeAt (h : RecordLaws s) (i : Slot) : RecordLaws (s.stopRegradeAt i) := by
  simp only [State.stopRegradeAt]
  split
  · exact h
  · rename_i r hr
    split
    · exact (h.putSeg i (r := r.stopRegrade) ((h.segments i r hr).withAcc (Nat.zero_le _))).raise _ _ _
    · exact h

theorem RecordLaws.beginClosing (h : RecordLaws s) (l : Lane) : RecordLaws (s.beginClosing l) := by
  have closing : ∀ u : State, RecordLaws u →
      RecordLaws (u.onLane l fun d => { d with reel := { d.reel with state := .closing }, duty := 0 }) :=
    fun u hu => hu.onLane_same rfl
  simp only [State.beginClosing]
  refine closing _ (List.foldlRecOn _ _ (List.foldlRecOn _ _ (List.foldlRecOn _ _ ?_ ?_) ?_) ?_)
  · exact ((h.of_lawView (onTracker_lawView _ _ _)).teardownQueue l).closeOpen l
  · exact fun _ ht i _ => ht.stopRegradeAt i
  · exact fun _ ht i _ => h.revise ht i
  · exact fun _ ht i _ => ht.onSeg i fun _ hr => hr

theorem RecordLaws.closeDeferrals (h : RecordLaws s) (l : Lane) : RecordLaws (s.closeDeferrals l) := h.dispose _

theorem RecordLaws.closeReel (h : RecordLaws s) (l : Lane) : RecordLaws (s.closeReel l) :=
  (((h.beginClosing l).closeDeferrals l).retireChain _ l).endClosing l

theorem RecordLaws.laneReset (h : RecordLaws s) (l : Lane) : RecordLaws (s.laneReset l) :=
  (RecordLaws.onLane (f := LaneState.cleared) (List.foldlRecOn _ _ (h.dispose _) fun _ ht i _ => ht.freeSlot i)
    queueLaws_nil).engineBegin

/-! ### The console, the engine and the lookup unit -/

theorem RecordLaws.dropHolds (h : RecordLaws s) (named : Slot → Bool) (notice : PartKind) (slot : Option Slot) :
    RecordLaws (s.dropHolds named notice slot) := by
  simp only [State.dropHolds]
  have dropped := h.withSegments
    (Vector.ofFn fun i => if (named i && s.heldByConsole i) = true then (s.seg i).map Segment.dropHold else s.seg i)
    fun i q hq => by
      rw [Vector.getElem_ofFn] at hq
      split at hq
      · obtain ⟨r, hr, rfl⟩ := Option.map_eq_some_iff.mp hq
        exact (h.segments i r hr).dropHold
      · exact h.segments i q hq
  split
  · exact (dropped.of_lawView (raisePart_lawView _ notice slot)).retire _
  · exact dropped

theorem RecordLaws.takeSegment {i : Slot} {r : Segment} (h : RecordLaws s) (hr : s.seg i = some r) :
    RecordLaws (s.takeSegment i r) := by
  have laws := h.segments i r hr
  have taken : SegmentLaws r.taken := SegmentLaws.bump (r := { r with owner := .console }) laws
  simp only [State.takeSegment]
  split
  · exact (h.putSeg i taken).of_lawView (ok_lawView _ _ _)
  · exact (h.putSeg i taken).of_lawView (ok_lawView _ _ _)
  · have cleared : SegmentLaws r.takenRegrading :=
      SegmentLaws.bump (r := { r with phase := .settled, acc := Accum.zero, owner := .console })
        (laws.withAcc (Nat.zero_le _))
    exact ((h.putSeg i cleared).raise _ _ _).of_lawView (ok_lawView _ _ _)
  · split
    · exact (h.putSeg i (r := { r with takePending := true }) laws).of_lawView (reply_lawView _ _ _ _ _)
    · have queued : SegmentLaws r.takenQueued :=
        SegmentLaws.bump (r := { r with phase := .settled, luminance := r.keptLuminance, owner := .console }) laws
      have unqueued : RecordLaws { s.putSeg i (some r.takenQueued) with computeQueue := s.computeQueue.erase i } :=
        (h.putSeg i queued).congr rfl (fun _ => rfl) rfl rfl
      have rechecked : RecordLaws (s.takeQueued i r) := (unqueued.raise _ _ _).recheck _
      exact rechecked.of_lawView (ok_lawView _ _ _)

theorem RecordLaws.cutSegment {i j : Slot} {a : Segment} {t : State} (h : RecordLaws s) (ha : s.seg i = some a)
    (frame : Nat) (allocated : s.allocate a.lane = some (j, t)) : RecordLaws (t.cutSegment i j a frame) := by
  have first : SegmentLaws ({ a with last := some (frame - 1) } : Segment).bump :=
    SegmentLaws.bump (r := { a with last := some (frame - 1) }) (h.segments i a ha)
  have lawful := h.allocate allocated
  have installed := (lawful.putSeg i first).install a.lane j
    (secondPart_laws a (((t.lane a.lane).reel.load.map ReelLoad.profile).getD a.profile) frame (t.lastCovered a))
    (insertAfter i j)
  simp only [State.cutSegment]
  refine RecordLaws.recheck ?_ _
  split
  · exact installed.setQueue _ ((lawful.queue a.lane).sublist List.filter_sublist)
  · exact installed

theorem RecordLaws.completionNotices (h : RecordLaws s) (i : Slot) (r : Segment) : RecordLaws (s.completionNotices i r) := by
  refine h.of_lawView ?_
  simp only [State.completionNotices]
  split <;> split <;> simp

theorem RecordLaws.complete (h : RecordLaws s) : RecordLaws s.complete := by
  have next : ∀ u : State, RecordLaws u → RecordLaws { u with engine := none }.engineBegin :=
    fun u hu => RecordLaws.engineBegin (hu.congr rfl (fun _ => rfl) rfl rfl)
  simp only [State.complete]
  split
  · exact h
  · split
    · exact next s h
    · rename_i i _ _ r hr
      have written := h.putSeg i ((h.segments i r hr).completed (s.profile r.profile))
      exact RecordLaws.retire ((next _ (written.completionNotices i r)).recheck _) _

theorem RecordLaws.densityWatch (h : RecordLaws s) (l : Lane) (f : Nat) (mean : Rgb Nat) :
    RecordLaws (s.densityWatch l f mean) := by
  simp only [State.densityWatch]
  split
  · exact h
  · split
    · split
      · exact h
      · split
        · exact h.arrive l ⟨rfl, Nat.min_le_left _ _⟩
        · exact h
    · exact h

theorem RecordLaws.routeSummary (h : RecordLaws s) (l : Lane) (f : Nat) (black white mean : Rgb Nat) :
    RecordLaws (s.routeSummary l f black white mean) := by
  simp only [State.routeSummary, State.addToSegment]
  split
  · rename_i routed; exact h.setQueue l ((h.queue l).routeToCandidate routed)
  · split
    · split
      · rename_i r _ few
        have most : (r.acc.addSummary black white mean).count ≤ Config.summariesMax := few.2
        exact h.revise (h.accumulate _ most) _
      · exact h
    · exact h

theorem RecordLaws.takeSummary (h : RecordLaws s) (lane frame : Nat) (black white mean : Rgb Nat) :
    RecordLaws (s.takeSummary lane frame black white mean) := by
  simp only [State.takeSummary]
  split
  · exact h.onLookup _
  · split
    · exact h.onLookup _
    · split
      · exact h.onLookup _
      · split
        · exact h.onLookup _
        · exact ((h.densityWatch _ _ _).routeSummary _ _ _ _ _).onLookup _

theorem RecordLaws.placeLookup (h : RecordLaws s) (tag : Nat) (l : Lane) (f : Nat) : RecordLaws (s.placeLookup tag l f) := by
  simp only [State.placeLookup, State.pushAnswer]
  split
  · exact h.onLookup _
  · exact h.onLookup _
  · split <;> exact h.onLookup _

theorem RecordLaws.takeLookup (h : RecordLaws s) (tag lane frame : Nat) : RecordLaws (s.takeLookup tag lane frame) := by
  simp only [State.takeLookup]
  split
  · exact h.onLookup _
  · split
    · exact h.onLookup _
    · split
      · exact h.onLookup _
      · split
        · exact h.onLookup _
        · exact (h.placeLookup _ _ _).onLookup _

theorem RecordLaws.expireEntry (h : RecordLaws s) (e : Deferral) : RecordLaws (s.expireEntry e) :=
  ((h.onLookup _).of_lawView (raisePart_lawView _ _ _)).retire _

theorem RecordLaws.expire (h : RecordLaws s) : RecordLaws s.expire := by
  simp only [State.expire]
  split
  · exact h
  · exact h.expireEntry _

theorem RecordLaws.expireEach (h : RecordLaws s) (due : List Deferral) : RecordLaws (s.expireEach due) :=
  List.foldlRecOn _ _ h fun _ ht e _ => ht.expireEntry e

theorem RecordLaws.countDown (h : RecordLaws s) : RecordLaws s.countDown := h.onLookup _

theorem RecordLaws.deferralTick (h : RecordLaws s) : RecordLaws s.deferralTick := (h.expireEach _).countDown

/-! ### The lease (R129) -/

/-- A lease that is STOPPED or RUNNING with a count in its range, and a length in its range, keep the laws. -/
theorem RecordLaws.withLease {t : State} (h : RecordLaws s) (segments : t.segments = s.segments)
    (lanes : t.lanes = s.lanes) (length : t.leaseLength ≤ Config.leaseMax)
    (lease : ∀ n, t.lease = some n → 1 ≤ n ∧ n ≤ Config.leaseMax) : RecordLaws t where
  segments i r hr := h.segments i r (by simpa only [State.seg, segments] using hr)
  queues l := by simpa only [State.lane, lanes] using h.queues l
  candidates l := by simpa only [State.lane, lanes] using h.candidates l
  leaseLength := length
  lease := lease

theorem RecordLaws.stopLease (h : RecordLaws s) : RecordLaws { s with lease := none } :=
  h.withLease rfl rfl h.leaseLength nofun

theorem RecordLaws.reloadLease (h : RecordLaws s) : RecordLaws s.reloadLease := by
  refine h.withLease rfl rfl h.leaseLength fun n hn => ?_
  have longest := h.leaseLength
  simp only [State.reloadLease] at hn
  split at hn
  · cases hn
  · cases hn; omega

theorem RecordLaws.setTimers (h : RecordLaws s) (tick : TickSelect) (limit : Nat) {lease : Nat}
    (hl : lease ≤ Config.leaseMax) : RecordLaws (s.setTimers tick limit lease) := by
  refine h.withLease rfl rfl hl fun n hn => ?_
  simp only [State.setTimers] at hn
  split at hn
  · cases hn
  · exact h.lease n hn

theorem RecordLaws.leaseExpiry (h : RecordLaws s) : RecordLaws s.leaseExpiry := h.stopLease.dropHolds _ _ _

theorem RecordLaws.leaseTick (h : RecordLaws s) : RecordLaws s.leaseTick := by
  simp only [State.leaseTick]
  split
  · exact h
  · rename_i n running
    split
    · exact h.leaseExpiry
    · have range := h.lease n running
      exact h.withLease rfl rfl h.leaseLength fun m hm => by cases hm; omega

end

/-! ### Power-on and every step -/

theorem reset_recordLaws : RecordLaws State.reset where
  segments i r hr := by simp at hr
  queues l := by simp [LaneState.reset]
  candidates l e he := by simp [LaneState.reset] at he
  leaseLength := by decide
  lease n hn := by cases hn

/-- The effects of the commands keep the laws of the records. -/
theorem recordLaws_keptByEffects : KeptByEffects RecordLaws where
  unseen := RecordLaws.of_lawView
  powerOn := reset_recordLaws
  partReset _ := reset_recordLaws.congr rfl (fun _ => rfl) rfl rfl
  load _ h _ := h.onLane_same rfl
  restate _ h _ queue _ := h.onLane_same queue
  unloadLoaded h _ := RecordLaws.raise (h.onLane_same rfl) _ _ _
  closeReel h _ := h.closeReel _
  laneReset l h := h.laneReset l
  relayout _ h _ _ _ := h.onLookup _
  enable _ _ h _ := h.onLookup _
  disableLink h := (h.onLookup _).retire _
  setTimers tick _ _ h _ _ short := h.setTimers tick _ short
  reloadLease h := h.reloadLease
  dropHolds named notice slot h := h.dropHolds named notice slot
  takeSegment h hr _ _ _ := h.takeSegment hr
  release {s i r} h hr _ := by
    have back : SegmentLaws r.handedBack := SegmentLaws.bump (r := { r with owner := .auto }) (h.segments i r hr)
    exact ((h.putSeg i back).of_lawView (raisePart_lawView _ _ _)).retire _
  consoleWrite _ _ _ _ _ _ _ _ h hr _ := h.putSeg _ (SegmentLaws.bump ((h.segments _ _ hr).congr rfl rfl rfl rfl))
  cut h ha _ _ _ allocated := h.cutSegment ha _ allocated
  join h ha _ _ _ _ _ := RecordLaws.recheck ((h.putSeg _ ((h.segments _ _ ha).joined _)).freeSlot _) _
  regrade {s i r} h hr _ _ _ := h.putSeg _ (SegmentLaws.bump
    (r := { r with phase := .regrading, acc := Accum.zero, source := .inherited })
    ((h.segments _ _ hr).withAcc (Nat.zero_le _)))
  deliver _ _ h := h.onLookup _
  takeLookup tag lane frame h := h.takeLookup tag lane frame
  takeSummary lane frame black white mean h := h.takeSummary lane frame black white mean
  perfWord l position strength h := recordLaws_keptByFilm.perfWord_kept h l position strength
  spliceWord l position kind h := recordLaws_keptByFilm.spliceWord_kept h l position kind
  travelWord l position h := recordLaws_keptByFilm.travelWord_kept h l position
  runoutWord l position h := recordLaws_keptByFilm.runoutWord_kept h l position
  complete h := h.complete
  deferralTick h := h.deferralTick
  expire h := h.expire
  leaseTick h := h.leaseTick
  leaseExpiry h := h.leaseExpiry

/-- Settles O59: each effect writes records, candidates and lease counts inside their ranges. -/
theorem recordLawsKept : Obligations.RecordLawsKept :=
  fun _ t h next => recordLaws_keptByEffects.step_kept h t next

end Sys2Proof.Machine
end

section
/-! PROOFS. Power-on: its values and the four laws (O4, O60). -/

namespace Sys2Proof.Machine

/-! ### The state after power-on -/

@[simp] theorem reset_profile (p : ProfileNo) : State.reset.profile p = Profile.powerOn := by
  simp [State.reset, State.profile]

/-- No lane flag is set after power-on. -/
theorem reset_notice (k : Fin 11) : LaneState.reset.notices[k.val] = { raised := false, latest := none } := by
  simp [LaneState.reset]

/-- No part-wide flag is set after power-on. -/
theorem reset_partNotice (k : Fin 5) : State.reset.partNotices[k.val] = { raised := false, latest := none } := by
  simp [State.reset]

/-- The default policies of the lane kinds: LANE_LOST, TABLE_FULL and REEL_RETIRED are enabled, and the first two hold (R166). -/
theorem reset_policy (k : Fin 11) : LaneState.reset.policies[k.val] =
    { enable := decide (k = 1 ∨ k = 7 ∨ k = 10), route := .control, hold := decide (k = 1 ∨ k = 7) } := by
  have : LaneState.reset.policies[k.val] = Policy.laneDefault k := by simp [LaneState.reset]
  rw [this]
  revert k
  decide

/-- The default policies of the part-wide kinds: all but PROVISIONAL_ISSUED are enabled (R166). -/
theorem reset_partPolicy (k : Fin 5) : State.reset.partPolicies[k.val] =
    { enable := decide (k ≠ 4), route := if k = 1 ∨ k = 3 then .grading else .control, hold := false } := by
  have : State.reset.partPolicies[k.val] = Policy.partDefault k := by simp [State.reset]
  rw [this]
  revert k
  decide

/-- With no flag set, no attention line is active (R167). -/
theorem attention_of_clear {s : State} (lanes : ∀ l (k : Fin 11), (s.lane l).notices[k.val].raised = false)
    (part : ∀ k : Fin 5, s.partNotices[k.val].raised = false) (toControl : Bool) : s.attention toControl = false := by
  simp [State.attention, drives, lanes, part]

/-- With no flag of a lane set, its HOLD line is inactive (R168). -/
theorem holdLine_of_clear {s : State} {l : Lane} (lane : ∀ k : Fin 11, (s.lane l).notices[k.val].raised = false) :
    s.holdLine l = false := by
  simp [State.holdLine, lane]

theorem reset_attention (toControl : Bool) : State.reset.attention toControl = false :=
  attention_of_clear (fun l k => by rw [reset_lane, reset_notice]) (fun k => by rw [reset_partNotice]) toControl

theorem reset_holdLine (l : Lane) : State.reset.holdLine l = false :=
  holdLine_of_clear fun k => by rw [reset_lane, reset_notice]

/-! ### POWER_ON -/

/-- The state that POWER_ON leaves: the RESET line's level and the commands that wait lie outside the part (log entry 19). -/
def State.poweredOn (s : State) : State := { State.reset with resetHeld := s.resetHeld, pending := s.pending }

section
variable (s : State)

theorem exec_powerOn : exec .powerOn s = .next s.poweredOn := rfl

@[simp] theorem poweredOn_lane (l : Lane) : s.poweredOn.lane l = LaneState.reset := reset_lane l

@[simp] theorem poweredOn_profile (p : ProfileNo) : s.poweredOn.profile p = Profile.powerOn := reset_profile p

@[simp] theorem poweredOn_link (k : PortName) : s.poweredOn.link k = Link.reset := by cases k <;> rfl

end

/-- Settles O4: the state that POWER_ON leaves, record by record, queue by queue and line by line. -/
theorem powerOnValues : Obligations.PowerOnValues := by
  intro s
  refine ⟨s.poweredOn, exec_powerOn s, rfl, rfl, rfl, reset_seg, fun l => ?lane, fun p => ?profile, rfl, rfl, rfl, rfl, rfl,
    rfl, rfl, rfl, rfl, rfl, rfl, rfl, reset_partNotice, reset_partPolicy, fun k => ?link, reset_attention true,
    reset_attention false, reset_holdLine, rfl⟩
  case lane =>
    rw [poweredOn_lane]
    exact ⟨rfl, rfl, rfl, rfl, rfl, reset_notice, reset_policy⟩
  case profile =>
    rw [poweredOn_profile]
    simp [Profile.powerOn]
  case link =>
    rw [poweredOn_link]
    exact ⟨rfl, rfl, rfl⟩

/-! ### The laws after power-on -/

theorem reset_engineLaws : EngineLaws State.reset where
  distinct := List.nodup_nil
  apart i hi := by cases hi
  recorded i hi := by rcases hi with hi | hi <;> cases hi
  idle _ := rfl
  computes i r hr := by simp at hr

theorem reset_lookupLaws : LookupLaws State.reset where
  deferred := Nat.zero_le _
  waiting e he := by cases he
  limit := by decide
  reserved := Nat.zero_le _
  layout := by decide
  slots a ha := by cases ha
  disabled _ := ⟨rfl, rfl⟩

/-- Settles O60. -/
theorem lawsHoldAtReset : Obligations.LawsHoldAtReset :=
  ⟨reset_slotLaws, reset_engineLaws, reset_lookupLaws, reset_recordLaws⟩

end Sys2Proof.Machine
end

section
/-! PROOFS. LIST_REEL reports a chain in pages of eight (O37). -/

namespace Sys2Proof.Machine

/-- The slots of a list that have a record, with their records. -/
def State.recorded (s : State) (is : List Slot) : List (Slot × Segment) :=
  is.filterMap fun i => (s.seg i).map fun r => (i, r)

theorem seg_of_mem_recorded {s : State} {is : List Slot} {p : Slot × Segment} (h : p ∈ s.recorded is) :
    s.seg p.1 = some p.2 := by
  obtain ⟨i, -, hp⟩ := List.mem_filterMap.mp h
  obtain ⟨r, hr, rfl⟩ := Option.map_eq_some_iff.mp hp
  exact hr

/-- Where every slot has a record, none is left out. -/
theorem recorded_slots {s : State} {is : List Slot} (h : ∀ i ∈ is, s.seg i ≠ none) : (s.recorded is).map Prod.fst = is := by
  induction is with
  | nil => rfl
  | cons i rest ih =>
    obtain ⟨hi, hr⟩ := List.forall_mem_cons.mp h
    obtain ⟨r, seg⟩ := Option.ne_none_iff_exists'.mp hi
    have hrest := ih hr
    simp only [State.recorded] at hrest
    simp [State.recorded, seg, hrest]

/-- A LIST_REEL reply, entry by entry (11.7). -/
theorem reelReport_eq (s : State) (l : Lane) (position : Nat) :
    s.reelReport l position =
      [wire 1 l.val, wire 1 (s.lane l).reel.state.code, wire 1 (s.chain l).length, wire 1 position,
        wire 1 (s.recorded (s.listed l position)).length] ++
      (s.recorded (s.listed l position)).flatMap fun p => p.2.entry p.1 := by
  have entries : (s.listed l position).filterMap (fun i => (s.seg i).map fun r => r.entry i) =
      (s.recorded (s.listed l position)).map fun p => p.2.entry p.1 := by
    simp [State.recorded, List.map_filterMap, Option.map_map, Function.comp_def]
  simp only [State.reelReport, entries, List.length_map, List.flatMap]

/-- The first `n` pages of eight are the first `8 n` of a list. -/
theorem pages_eq_take {α : Type} (c : List α) (n : Nat) :
    ((List.range n).flatMap fun k => (c.drop (8 * k)).take 8) = c.take (8 * n) := by
  induction n with
  | zero => rfl
  | succ n ih => rw [List.range_succ, List.flatMap_append, ih, List.flatMap_singleton, ← List.take_add]; rfl

theorem exec_listReel (k : PortName) (lane position : Nat) (s : State) :
    exec (.listReel k lane position) s = execListReel k lane position s := rfl

/-- Settles O37: the entries are the recorded slots of one page, and eight pages hold a whole chain. -/
theorem listReel : Obligations.ListReel := by
  refine ⟨fun s k lane position released above => ?badLane, fun s k l position released records => ?report,
    fun s l short => ?pages⟩
  case badLane =>
    simp only [exec_listReel, execListReel, unlessReset_released released, laneOf_none above]
  case report =>
    have listed : ∀ i ∈ s.listed l position, s.seg i ≠ none := fun i hi =>
      records i (List.mem_of_mem_drop (List.mem_of_mem_take hi))
    refine ⟨s.recorded (s.listed l position), recorded_slots listed, fun p hp => seg_of_mem_recorded hp, fun past => ?_, ?_⟩
    · rw [State.listed, List.drop_eq_nil_of_le past]; rfl
    · simp only [exec_listReel, execListReel, unlessReset_released released, laneOf_val, reelReport_eq, Segment.entry]
  case pages =>
    have positions : [0, 8, 16, 24, 32, 40, 48, 56] = (List.range 8).map (8 * ·) := rfl
    rw [positions, List.flatMap_map, pages_eq_take, List.take_of_length_le short]

end Sys2Proof.Machine
end

section
/-! PROOFS. A SUMMARY taken (O45): its candidate, its segment, the end of a regrade and the density watch. -/

namespace Sys2Proof.Machine

/-! ### Two writes of one place -/

/-- Of two writes of one place the second is made on what the first wrote. -/
theorem update_update {α : Type} {n : Nat} (v : Vector α n) (i : Fin n) (f g : α → α) :
    update (update v i f) i g = update v i fun x => g (f x) := by simp [update]

theorem setQueue_setQueue (s : State) (l : Lane) (q q' : List Candidate) :
    (s.setQueue l q).setQueue l q' = s.setQueue l q' := by
  simp only [State.setQueue, State.onLane, update_update]

theorem onSeg_putSeg (s : State) (i : Slot) (r : Segment) (f : Segment → Segment) :
    (s.putSeg i (some r)).onSeg i f = s.putSeg i (some (f r)) := by
  simp only [State.putSeg, State.onSeg, update_update, Option.map_some]

/-! ### Revisions and the Compute Queue -/

/-- With no answered field changed an operation raises no revision (R18). -/
theorem revise_of_answered_eq {s before : State} {i : Slot} {a b : Segment} (ha : before.seg i = some a)
    (hb : s.seg i = some b) (same : a.answered = b.answered) : s.revise before i = s := by
  simp only [State.revise, ha, hb, same, if_true]

/-- With an answered field changed it raises the revision once (R18). -/
theorem revise_of_answered_ne {s before : State} {i : Slot} {a b : Segment} (ha : before.seg i = some a)
    (hb : s.seg i = some b) (changed : a.answered ≠ b.answered) :
    s.revise before i = s.onSeg i fun r => { r with revision := nextRevision a.revision } := by
  simp only [State.revise, ha, hb, changed, if_false]

/-- A working engine leaves the slot in the queue. -/
theorem enqueue_of_busy {s : State} (h : s.engine ≠ none) (i : Slot) :
    s.enqueue i = { s with computeQueue := s.computeQueue ++ [i] } := by
  obtain ⟨j, hj⟩ := Option.ne_none_iff_exists'.mp h
  simp only [State.enqueue, State.engineBegin, hj]

/-- An IDLE engine with nothing waiting begins the slot at once. -/
theorem enqueue_of_idle {s : State} (h : s.engine = none) (hq : s.computeQueue = []) (i : Slot) :
    s.enqueue i = { s with engine := some i } := by
  simp [State.enqueue, State.engineBegin, h, hq]

/-- The engine and the Compute Queue do not see a change of a record. -/
theorem onSeg_enqueue (s : State) (i k : Slot) (f : Segment → Segment) :
    (s.enqueue i).onSeg k f = (s.onSeg k f).enqueue i := by
  cases he : s.engine with
  | some j => rw [enqueue_of_busy (by simp [he]), enqueue_of_busy (by simp [he])]; rfl
  | none => cases hq : s.computeQueue <;> simp [State.enqueue, State.engineBegin, he, hq, State.onSeg]

/-! ### Routing (R83) -/

/-- A candidate that a summary falls under takes it while it holds fewer than 64 (R83). -/
def Candidate.entered (e : Candidate) (black white mean : Rgb Nat) : Candidate :=
  if e.acc.count < Config.summariesMax then { e with acc := e.acc.addSummary black white mean } else e

theorem routeToCandidate_cons (f : Nat) (black white mean : Rgb Nat) (e : Candidate) (rest : List Candidate) :
    routeToCandidate f black white mean (e :: rest) =
      match routeToCandidate f black white mean rest with
      | some rest' => some (e :: rest')
      | none => if e.frame ≤ f then some (e.entered black white mean :: rest) else none := rfl

/-- A summary before every candidate falls under none. -/
theorem routeToCandidate_of_before {f : Nat} {q : List Candidate} (black white mean : Rgb Nat)
    (h : ∀ e ∈ q, f < e.frame) : routeToCandidate f black white mean q = none := by
  induction q with
  | nil => rfl
  | cons e rest ih =>
    obtain ⟨he, hr⟩ := List.forall_mem_cons.mp h
    rw [routeToCandidate_cons, ih hr]
    exact if_neg (Nat.not_le.mpr he)

/-- A summary at or past a candidate and before those that follow falls under it. -/
theorem routeToCandidate_of_at {f : Nat} {e : Candidate} {rest : List Candidate} (black white mean : Rgb Nat)
    (he : e.frame ≤ f) (h : ∀ e ∈ rest, f < e.frame) :
    routeToCandidate f black white mean (e :: rest) = some (e.entered black white mean :: rest) := by
  rw [routeToCandidate_cons, routeToCandidate_of_before black white mean h]
  exact if_pos he

theorem exec_summary (lane frame : Nat) (black white mean : Rgb Nat) (s : State) :
    exec (.summary lane frame black white mean) s = execSummary lane frame black white mean s := rfl

section
variable {s : State} {l : Lane} {i : Slot} {r : Segment} {frame : Nat} {black white mean : Rgb Nat}

theorem routeSummary_of_candidate {q : List Candidate}
    (h : routeToCandidate frame black white mean (s.lane l).queue = some q) :
    s.routeSummary l frame black white mean = s.setQueue l q := by
  simp only [State.routeSummary, h]

theorem routeSummary_of_segment (h : ∀ e ∈ (s.lane l).queue, frame < e.frame) (found : s.find l frame = .found i r) :
    s.routeSummary l frame black white mean = s.addToSegment i r black white mean := by
  simp only [State.routeSummary, routeToCandidate_of_before black white mean h, found]

/-! ### The segment that holds the frame (R13, R109) -/

/-- A segment past its gathering, or full, takes no summary. -/
theorem addToSegment_of_closed (h : r.phase = .settled ∨ r.phase = .computing ∨ Config.summariesMax ≤ r.acc.count) :
    s.addToSegment i r black white mean = s := by
  refine if_neg ?_
  rintro ⟨gathers, few⟩
  rcases h with e | e | full
  · simp [Segment.accumulates, e] at gathers
  · simp [Segment.accumulates, e] at gathers
  · omega

/-- A MEASURING or REGRADING segment that stays so takes the summary, and no answered field changes. -/
theorem addToSegment_of_gathering (hr : s.seg i = some r) (few : r.acc.count < Config.summariesMax)
    (h : r.phase = .measuring ∨ r.phase = .regrading ∧ r.acc.count + 1 < (s.profile r.profile).windowSize) :
    s.addToSegment i r black white mean =
      s.putSeg i (some { r with acc := r.acc.addSummary black white mean }) := by
  have gathers : r.accumulates = true := by rcases h with e | ⟨e, -⟩ <;> simp [Segment.accumulates, e]
  have stays : ¬(r.phase = .regrading ∧ (s.profile r.profile).windowSize ≤ (r.acc.addSummary black white mean).count) := by
    rintro ⟨regrading, full⟩
    rcases h with e | ⟨-, short⟩
    · rw [e] at regrading; cases regrading
    · simp only [Accum.addSummary] at full; omega
  simp only [State.addToSegment, gathers, few, and_self, if_true, State.accumulate, hr, if_neg stays]
  exact revise_of_answered_eq hr (putSeg_seg _ _ _) rfl

/-- A REGRADING segment that the summary fills enters COMPUTING with its revision raised once (R18, R109). -/
theorem addToSegment_of_filled (hr : s.seg i = some r) (few : r.acc.count < Config.summariesMax)
    (regrading : r.phase = .regrading) (full : (s.profile r.profile).windowSize ≤ r.acc.count + 1) :
    s.addToSegment i r black white mean =
      (s.putSeg i (some
        { r with
          acc := r.acc.addSummary black white mean, phase := .computing
          revision := nextRevision r.revision })).enqueue i := by
  have gathers : r.accumulates = true := by simp [Segment.accumulates, regrading]
  have fills : r.phase = .regrading ∧ (s.profile r.profile).windowSize ≤ (r.acc.addSummary black white mean).count :=
    ⟨regrading, full⟩
  simp only [State.addToSegment, gathers, few, and_self, if_true, State.accumulate, hr, if_pos fills]
  have changed : r.answered ≠
      ({ r with acc := r.acc.addSummary black white mean, phase := .computing } : Segment).answered := fun same => by
    have flags := congrArg Answered.flags same
    simp [Segment.answered, Segment.flags, regrading] at flags
  rw [revise_of_answered_ne hr (by rw [enqueue_eq]; exact putSeg_seg _ _ _) changed, onSeg_enqueue, onSeg_putSeg]

/-! ### The density watch (R102) -/

/-- A summary with these means at a frame steps away from a SETTLED segment's luminance by more than the threshold. -/
def DensitySteps (s : State) (l : Lane) (frame : Nat) (mean : Rgb Nat) (q : Segment) : Prop :=
  q.phase = .settled ∧ q.first < frame ∧ ∃ lum, q.luminance = some lum ∧
    (s.laneProfile l).densityThreshold < ((((mean.r + mean.g + mean.b) / 3 : Nat) : Int) - lum).natAbs

/-- A candidate at the open segment's first frame or before is discarded (R80). -/
theorem arrive_discarded {j : Slot} {q : Segment} {c : Candidate} (ho : s.openSeg l = some (j, q)) (h : c.frame ≤ q.first) :
    s.arrive l c = s := by
  simp only [State.arrive, ho, if_pos h]

/-- A candidate past it is queued where the queue is empty (R80). -/
theorem arrive_queued {j : Slot} {q : Segment} {c : Candidate} (ho : s.openSeg l = some (j, q)) (h : q.first < c.frame)
    (empty : (s.lane l).queue = []) : s.arrive l c = s.setQueue l [c] := by
  simp only [State.arrive, ho, if_neg (Nat.not_le.mpr h), empty, List.getLast?_nil]

/-- On an ENDED lane, with a candidate queued or with no step from the open segment, the watch does nothing. -/
theorem densityWatch_of_quiet
    (h : (s.lane l).reel.state = .ended ∨ (s.lane l).queue ≠ [] ∨
      ∀ j q, s.openSeg l = some (j, q) → ¬DensitySteps s l frame mean q) : s.densityWatch l frame mean = s := by
  simp only [State.densityWatch]
  split
  · rfl
  · rename_i j q ho
    split
    · rename_i watches
      obtain ⟨-, settled, empty, state⟩ := watches
      split
      · rfl
      · rename_i lum luminance
        split
        · rename_i beyond
          have quiet : ¬DensitySteps s l frame mean q := by
            rcases h with ended | queued | quiet
            · simp [ended] at state
            · exact absurd empty queued
            · exact quiet j q ho
          refine arrive_discarded ho (Nat.not_lt.mp fun past => ?_)
          exact quiet ⟨settled, past, lum, luminance, beyond⟩
        · rfl
    · rfl

/-- A step from the SETTLED open segment queues a DENSITY_STEP candidate. -/
theorem densityWatch_of_steps {j : Slot} {q : Segment} {c : Nat}
    (state : (s.lane l).reel.state = .scanning ∨ (s.lane l).reel.state = .paused) (empty : (s.lane l).queue = [])
    (ho : s.openSeg l = some (j, q)) (steps : DensitySteps s l frame mean q) (hc : (s.lane l).tracker.current = some c) :
    s.densityWatch l frame mean = s.setQueue l [densityCandidate q c frame] := by
  obtain ⟨settled, past, lum, luminance, beyond⟩ := steps
  have watches : q.first ≤ frame ∧ q.phase = .settled ∧ (s.lane l).queue = [] ∧
      ((s.lane l).reel.state = .scanning ∨ (s.lane l).reel.state = .paused) := ⟨Nat.le_of_lt past, settled, empty, state⟩
  have differs : (s.laneProfile l).densityThreshold < (((mean.total / 3 : Nat) : Int) - lum).natAbs := beyond
  simp only [State.densityWatch, ho, if_pos watches, luminance, if_pos differs, hc, Option.getD_some]
  exact arrive_queued ho past empty

/-! ### The whole of a SUMMARY that passes its tests (R99, R100) -/

/-- A SUMMARY on a taken frame of a SCANNING, PAUSED or ENDED lane passes the tests of R99. -/
theorem summaryLaneTests_pass {c : Nat}
    (state : (s.lane l).reel.state = .scanning ∨ (s.lane l).reel.state = .paused ∨ (s.lane l).reel.state = .ended)
    (hc : (s.lane l).tracker.current = some c) (taken : frame ≤ c) (found : s.find l frame = .found i r) :
    s.summaryLaneTests l frame = none := by
  have behind : s.isAhead l frame = false := by simp [State.isAhead, hc, taken]
  rcases state with e | e | e <;> simp [State.summaryLaneTests, e, behind, found]

/-- What a SUMMARY that passes leaves: the watch, the routing and the status. -/
theorem exec_summary_taken {c : Nat} {t : State} (released : s.resetHeld = false) (enabled : s.lookup.enabled = true)
    (inRange : frame ≤ Config.frameMax) (hb : statisticsOk black = true) (hw : statisticsOk white = true)
    (hm : statisticsOk mean = true)
    (state : (s.lane l).reel.state = .scanning ∨ (s.lane l).reel.state = .paused ∨ (s.lane l).reel.state = .ended)
    (hc : (s.lane l).tracker.current = some c) (taken : frame ≤ c) (found : s.find l frame = .found i r)
    (routed : (s.densityWatch l frame mean).routeSummary l frame black white mean = t) (kept : t.lookup = s.lookup) :
    exec (.summary l.val frame black white mean) s =
      .next { t with lookup := { s.lookup with status := .accepted } } := by
  have legal : ¬(Config.frameMax < frame ∨ (statisticsOk black && statisticsOk white && statisticsOk mean) = false) := by
    simp [hb, hw, hm, inRange]
  simp only [exec_summary, execSummary, unlessReset_released released, State.takeSummary, enabled, Bool.true_eq_false, if_false, if_neg legal, laneOf_val,
    summaryLaneTests_pass state hc taken found, routed, State.setStatus, State.onLookup, kept]

end

/-- Settles O45: the watch queues a candidate or does nothing, and the summary is then routed to a candidate or to the segment that holds its frame. -/
theorem summaryAdded : Obligations.SummaryAdded := by
  intro s l i r c frame black white mean released enabled inRange hb hw hm state hc taken found add enter accepts steps
  have accepted : ∀ t, (s.densityWatch l frame mean).routeSummary l frame black white mean = t → t.lookup = s.lookup →
      accepts t := fun t => exec_summary_taken released enabled inRange hb hw hm state hc taken found
  have recorded := find_found found
  have toCandidate : ∀ q, (s.lane l).queue ≠ [] →
      routeToCandidate frame black white mean (s.lane l).queue = some q → accepts (s.setQueue l q) := by
    intro q queued routed
    refine accepted _ ?_ rfl
    rw [densityWatch_of_quiet (Or.inr (Or.inl queued)), routeSummary_of_candidate routed]
  refine ⟨fun h queue at_ => ?_, fun h g queue order => ⟨fun at_ => ?_, fun at_ before => ?_⟩, fun before quiet => ?_,
    fun j q running empty ho step => ?_⟩
  · refine toCandidate _ (by simp [queue]) ?_
    rw [queue, routeToCandidate_of_at black white mean at_ (by simp)]
    rfl
  · refine toCandidate _ (by simp [queue]) ?_
    rw [queue, routeToCandidate_cons, routeToCandidate_of_at black white mean at_ (by simp)]
    rfl
  · refine toCandidate _ (by simp [queue]) ?_
    rw [queue, routeToCandidate_of_at black white mean at_ (by simpa using before)]
    rfl
  · have toSegment : ∀ t, s.addToSegment i r black white mean = t → t.lookup = s.lookup → accepts t := by
      intro t added kept
      refine accepted t ?_ kept
      rw [densityWatch_of_quiet quiet, routeSummary_of_segment before found, added]
    refine ⟨fun closed => toSegment s (addToSegment_of_closed closed) rfl,
      fun few gathering => toSegment _ (addToSegment_of_gathering recorded few gathering) rfl,
      fun few regrading full => ?_⟩
    have filled := addToSegment_of_filled (black := black) (white := white) (mean := mean) recorded few regrading full
    exact ⟨fun busy => toSegment _ (filled.trans (enqueue_of_busy (by exact busy) i)) rfl,
      fun idle waiting => toSegment _ (filled.trans (enqueue_of_idle (by exact idle) (by exact waiting) i)) rfl⟩
  · have running : (s.lane l).reel.state = .scanning ∨ (s.lane l).reel.state = .paused := by
      rcases state with e | e | e
      · exact Or.inl e
      · exact Or.inr e
      · exact absurd e running
    refine accepted _ ?_ rfl
    rw [densityWatch_of_steps running empty ho step hc,
      routeSummary_of_candidate (q := [(densityCandidate q c frame).entered black white mean]) ?_, setQueue_setQueue]
    · rfl
    · rw [setQueue_lane]
      exact routeToCandidate_of_at black white mean (Nat.le_refl frame) (by simp)

end Sys2Proof.Machine
end

section
/-! PROOFS. One induction principle over the end-of-event freeing: a predicate that the freeing of one slot and the end of a closing keep is kept by every retirement (R155-R158). -/

namespace Sys2Proof.Machine

/-- A predicate over states that the freeing of a slot which `named` picks and nothing holds keeps, and the end of a closing. -/
structure KeptByRetirement (named : Slot → Bool) (P : State → Prop) : Prop where
  freeSlot : ∀ {s i r}, P s → named i = true → s.seg i = some r → s.held i r = false → P (s.freeSlot i)
  endClosing : ∀ {s} (l : Lane), P s → P (s.endClosing l)

namespace KeptByRetirement

variable {named : Slot → Bool} {P : State → Prop} {s : State} (h : KeptByRetirement named P) (hs : P s)
include h hs

theorem retireSlot_kept {i : Slot} (picked : named i = true) : P (s.retireSlot i) := by
  rcases retireSlot_cases s i with e | ⟨r, hr, -, unheld, e⟩ <;> rw [e]
  · exact hs
  · exact h.freeSlot hs picked hr unheld

theorem retireChain_kept (l : Lane) : P (s.retireChain named l) := by
  refine List.foldlRecOn _ _ hs fun t ht i _ => ?_
  split
  · rename_i picked; exact h.retireSlot_kept ht picked
  · exact ht

theorem retireLane_kept (l : Lane) : P (s.retireLane named l) := by
  simp only [State.retireLane]
  split
  · exact h.endClosing l (h.retireChain_kept hs l)
  · exact h.retireChain_kept hs l

theorem retire_kept : P (s.retire named) :=
  h.retireLane_kept (h.retireLane_kept (h.retireLane_kept (h.retireLane_kept hs 0) 1) 2) 3

end KeptByRetirement

end Sys2Proof.Machine
end

section
/-! PROOFS. The Compute Queue and the engine: what each operation leaves of their laws, up to O57. -/

namespace Sys2Proof.Machine

/-! ### What the laws read of a record -/

/-- The fields of a record that the laws of the Compute Queue and the engine read (R103, R104, R116). -/
structure Standing where
  phase : Phase
  owner : Owner
  takePending : Bool

/-- The standing of a record. -/
def Segment.standing (r : Segment) : Standing := { phase := r.phase, owner := r.owner, takePending := r.takePending }

/-- The slot stands neither in the Compute Queue nor in the engine. -/
def State.Outside (s : State) (i : Slot) : Prop := i ∉ s.computeQueue ∧ s.engine ≠ some i

/-- EngineLaws but for the engine's beginning: an IDLE engine may still leave slots waiting (R104). -/
structure EngineStands (s : State) : Prop where
  distinct : s.computeQueue.Nodup
  apart : ∀ i, s.engine = some i → i ∉ s.computeQueue
  recorded : ∀ i, i ∈ s.computeQueue ∨ s.engine = some i → (s.seg i).isSome = true
  computes : ∀ i r, s.seg i = some r → SlotComputes s i r

section
variable {s t : State} {i : Slot} {r q : Segment}

/-- The law of one record reads its standing, and whether its slot waits or computes. -/
theorem SlotComputes.congr (h : SlotComputes s i r) (standing : q.standing = r.standing)
    (queue : i ∈ t.computeQueue ↔ i ∈ s.computeQueue) (engine : t.engine = some i ↔ s.engine = some i) :
    SlotComputes t i q := by
  simp only [Segment.standing, Standing.mk.injEq] at standing
  obtain ⟨phase, owner, pending⟩ := standing
  simp only [SlotComputes, phase, owner, pending, queue, engine]
  exact h

/-- A record outside the queue and the engine, not COMPUTING, with no take pending and owned by AUTO while REGRADING, meets the law. -/
theorem State.Outside.computes (out : s.Outside i) (phase : q.phase ≠ .computing)
    (owner : q.phase = .regrading → q.owner = .auto) (pending : q.takePending = false) : SlotComputes s i q := by
  obtain ⟨queue, engine⟩ := out
  refine ⟨⟨fun h => absurd h phase, fun h => (h.elim queue engine).elim⟩, ?_, by simp [pending]⟩
  rintro (h | h)
  · exact absurd h phase
  · exact owner h

/-- A record that is not COMPUTING stands outside, and no take of it is pending. -/
theorem SlotComputes.outside (h : SlotComputes s i r) (phase : r.phase ≠ .computing) :
    s.Outside i ∧ r.takePending = false := by
  obtain ⟨computing, -, pending⟩ := h
  have out : s.Outside i := not_or.mp fun m => phase (computing.mpr m)
  exact ⟨out, Bool.eq_false_iff.mpr fun p => out.2 (pending p)⟩

/-! ### The laws without the engine's beginning -/

theorem EngineLaws.stands (h : EngineLaws s) : EngineStands s := ⟨h.distinct, h.apart, h.recorded, h.computes⟩

theorem EngineStands.laws (h : EngineStands s) (idle : s.engine = none → s.computeQueue = []) : EngineLaws s :=
  ⟨h.distinct, h.apart, h.recorded, idle, h.computes⟩

/-- The laws pass between two states with the same queue and engine and the same standings. -/
theorem EngineStands.of_standings (h : EngineStands s)
    (same : ∀ j, (t.seg j).map Segment.standing = (s.seg j).map Segment.standing)
    (queue : t.computeQueue = s.computeQueue) (engine : t.engine = s.engine) : EngineStands t where
  distinct := queue ▸ h.distinct
  apart j hj := queue ▸ h.apart j (engine ▸ hj)
  recorded j hj := by
    have was := h.recorded j (by rwa [queue, engine] at hj)
    rwa [← Option.isSome_map (f := Segment.standing), same j, Option.isSome_map]
  computes j q hq := by
    obtain ⟨r, hr, standing⟩ := Option.map_eq_some_iff.mp ((same j).symm.trans (by rw [hq, Option.map_some]))
    exact (h.computes j r hr).congr standing.symm (by rw [queue]) (by rw [engine])

/-- An operation that changes one slot's record and place keeps the laws, if it keeps them for that slot. -/
theorem EngineStands.changedAt (h : EngineStands s) (i : Slot) (others : ∀ j, j ≠ i → t.seg j = s.seg j)
    (queue : ∀ j, j ≠ i → (j ∈ t.computeQueue ↔ j ∈ s.computeQueue))
    (engine : ∀ j, j ≠ i → (t.engine = some j ↔ s.engine = some j)) (distinct : t.computeQueue.Nodup)
    (apart : t.engine = some i → i ∉ t.computeQueue)
    (recorded : i ∈ t.computeQueue ∨ t.engine = some i → (t.seg i).isSome = true)
    (computes : ∀ r, t.seg i = some r → SlotComputes t i r) : EngineStands t where
  distinct := distinct
  apart j hj := by
    by_cases e : j = i
    · subst e; exact apart hj
    · rw [queue j e]; exact h.apart j ((engine j e).mp hj)
  recorded j hj := by
    by_cases e : j = i
    · subst e; exact recorded hj
    · rw [others j e]; exact h.recorded j (by rwa [queue j e, engine j e] at hj)
  computes j q hq := by
    by_cases e : j = i
    · subst e; exact computes q hq
    · exact (h.computes j q (others j e ▸ hq)).congr rfl (queue j e) (engine j e)

/-- The engine's beginning restores the last of the laws (R104). -/
theorem EngineStands.engineBegin (h : EngineStands s) : EngineLaws s.engineBegin := by
  rcases engineBegin_cases s with ⟨i, rest, idle, waiting, e⟩ | ⟨began, e⟩
  · obtain ⟨fresh, distinct⟩ := List.nodup_cons.mp (waiting ▸ h.distinct)
    have standing := mem_engineBegin s
    rw [e] at standing ⊢
    refine EngineStands.laws ⟨distinct, fun j hj => ?_, fun j hj => ?_, fun j r hr => ?_⟩ nofun
    · cases hj; exact fresh
    · exact h.recorded j ((standing j).mp hj)
    · obtain ⟨computing, owner, pending⟩ := h.computes j r hr
      refine ⟨computing.trans (standing j).symm, owner, fun p => ?_⟩
      rw [idle] at pending
      cases pending p
  · rw [e]
    exact h.laws fun idle => began.resolve_left fun busy => busy idle

/-- A freeing takes the slot out of the queue and the engine (R4). -/
theorem EngineStands.freeSlot (h : EngineStands s) (i : Slot) : EngineStands (s.freeSlot i) := by
  cases hi : s.seg i with
  | none => rw [freeSlot_of_free hi]; exact h
  | some r =>
    obtain ⟨gone, others, -, -, -, queue, engine⟩ := freeSlot_of_seg hi
    have out : (s.freeSlot i).Outside i := by
      refine ⟨queue ▸ h.distinct.not_mem_erase, ?_⟩
      rw [engine]
      split
      · nofun
      · assumption
    refine h.changedAt i others (fun j hj => ?_) (fun j hj => ?_) (queue ▸ h.distinct.erase i)
      (fun m => absurd m out.2) (fun m => (m.elim out.1 out.2).elim) (fun q hq => by rw [gone] at hq; cases hq)
    · rw [queue, List.mem_erase_of_ne hj]
    · rw [engine]
      split
      · rename_i here; simp [here, Ne.symm hj]
      · rfl

/-! ### Writes of records -/

theorem EngineLaws.of_standings (h : EngineLaws s)
    (same : ∀ j, (t.seg j).map Segment.standing = (s.seg j).map Segment.standing)
    (queue : t.computeQueue = s.computeQueue) (engine : t.engine = s.engine) : EngineLaws t :=
  (h.stands.of_standings same queue engine).laws (by rw [queue, engine]; exact h.idle)

/-- The laws pass between two states with the same records, queue and engine. -/
theorem EngineLaws.congr (h : EngineLaws s) (segments : t.segments = s.segments)
    (queue : t.computeQueue = s.computeQueue) (engine : t.engine = s.engine) : EngineLaws t :=
  h.of_standings (fun j => by simp only [State.seg, segments]) queue engine

theorem EngineLaws.of_lawView (hv : t.lawView = s.lawView) (h : EngineLaws s) : EngineLaws t :=
  h.congr (congrArg LawView.segments hv) (congrArg LawView.computeQueue hv) (congrArg LawView.engine hv)

theorem EngineLaws.onLane (h : EngineLaws s) (l : Lane) (f : LaneState → LaneState) : EngineLaws (s.onLane l f) :=
  h.congr rfl rfl rfl

theorem EngineLaws.raise (h : EngineLaws s) (l : Lane) (k : LaneKind) (o : Option Slot) : EngineLaws (s.raise l k o) :=
  h.congr rfl rfl rfl

theorem EngineLaws.raisePart (h : EngineLaws s) (k : PartKind) (o : Option Slot) : EngineLaws (s.raisePart k o) :=
  h.congr rfl rfl rfl

theorem EngineLaws.onLookup (h : EngineLaws s) (f : LookupUnit → LookupUnit) : EngineLaws (s.onLookup f) :=
  h.congr rfl rfl rfl

theorem EngineLaws.dispose (h : EngineLaws s) (deal : Deferral → Disposal) : EngineLaws (s.dispose deal) := h.onLookup _

theorem EngineLaws.recheck (h : EngineLaws s) (concerned : Deferral → Bool) : EngineLaws (s.recheck concerned) :=
  h.dispose _

/-- A FREE slot stands outside the queue and the engine. -/
theorem EngineLaws.outside_of_free (h : EngineLaws s) (free : s.seg i = none) : s.Outside i :=
  not_or.mp fun m => by have := h.recorded i m; simp [free] at this

/-- A record that is not COMPUTING stands outside them, and no take of it is pending. -/
theorem EngineLaws.outside (h : EngineLaws s) (hr : s.seg i = some r) (phase : r.phase ≠ .computing) :
    s.Outside i ∧ r.takePending = false := (h.computes i r hr).outside phase

/-- A record that meets the law of its slot may be written there, in a FREE slot too. -/
theorem EngineLaws.putSeg (h : EngineLaws s) (hq : SlotComputes s i q) : EngineLaws (s.putSeg i (some q)) := by
  refine EngineStands.laws (h.stands.changedAt i (fun j => putSeg_seg_other s i _ j) (fun _ _ => Iff.rfl)
    (fun _ _ => Iff.rfl) h.distinct (h.apart i) (fun _ => by rw [putSeg_seg]; rfl) fun r hr => ?_) h.idle
  rw [putSeg_seg] at hr
  cases hr
  exact hq

/-- A record written with its standing kept. -/
theorem EngineLaws.putSame (h : EngineLaws s) (hr : s.seg i = some r) (standing : q.standing = r.standing) :
    EngineLaws (s.putSeg i (some q)) := h.putSeg ((h.computes i r hr).congr standing Iff.rfl Iff.rfl)

/-- Changes of a record that keep its standing. -/
theorem EngineLaws.onSeg (h : EngineLaws s) (i : Slot) {f : Segment → Segment}
    (hf : ∀ r, (f r).standing = r.standing) : EngineLaws (s.onSeg i f) := by
  refine h.of_standings (fun j => ?_) rfl rfl
  by_cases e : j = i
  · subst e
    rw [onSeg_seg]
    cases s.seg j <;> simp [hf]
  · rw [onSeg_seg_other _ _ _ _ e]

theorem EngineLaws.revise (h : EngineLaws s) (before : State) (i : Slot) : EngineLaws (s.revise before i) := by
  rcases revise_cases s before i with e | ⟨a, -, e⟩ <;> rw [e]
  · exact h
  · exact h.onSeg i fun _ => rfl

/-- A record outside the queue and the engine that is written COMPUTING, owned by AUTO, joins the Compute Queue (R103). -/
theorem EngineLaws.enqueue (h : EngineLaws s) (out : s.Outside i) (phase : q.phase = .computing)
    (owner : q.owner = .auto) (pending : q.takePending = false) : EngineLaws ((s.putSeg i (some q)).enqueue i) := by
  obtain ⟨queue, engine⟩ := out
  refine EngineStands.engineBegin (h.stands.changedAt i (fun j => putSeg_seg_other s i _ j) (fun j hj => ?_)
    (fun _ _ => Iff.rfl) ?_ (fun here => absurd here engine) (fun _ => ?_) fun r hr => ?_)
  · simp [hj]
  · exact List.nodup_append.mpr ⟨h.distinct, List.pairwise_singleton _ i, fun j hj k hk e =>
      queue (by rwa [e, List.mem_singleton.mp hk] at hj)⟩
  · exact (congrArg Option.isSome (putSeg_seg s i (some q))).trans rfl
  · cases (putSeg_seg s i (some q)).symm.trans hr
    exact ⟨by simp [phase], fun _ => owner, by simp [pending]⟩

/-! ### Freeing and retirement (R4, R155-R158) -/

/-- The freeing of a slot outside the queue and the engine leaves both as they were. -/
theorem EngineLaws.freeSlot (h : EngineLaws s) (hr : s.seg i = some r) (phase : r.phase ≠ .computing) :
    EngineLaws (s.freeSlot i) := by
  obtain ⟨⟨queue, engine⟩, -⟩ := h.outside hr phase
  obtain ⟨-, -, -, -, -, queueKept, engineKept⟩ := freeSlot_of_seg hr
  refine (h.stands.freeSlot i).laws ?_
  rw [queueKept, engineKept, if_neg engine, List.erase_of_not_mem queue]
  exact h.idle

theorem EngineLaws.endClosing (h : EngineLaws s) (l : Lane) : EngineLaws (s.endClosing l) := by
  simp only [State.endClosing]
  split
  · exact h.congr rfl rfl rfl
  · exact h

/-- Nothing that holds no computation is COMPUTING (R155), so a retirement keeps the laws. -/
theorem engineLaws_keptByRetirement (named : Slot → Bool) : KeptByRetirement named EngineLaws where
  freeSlot h _ hr unheld := h.freeSlot hr fun computing => by simp [State.held, computing] at unheld
  endClosing l h := h.endClosing l

theorem EngineLaws.retire (h : EngineLaws s) (named : Slot → Bool) : EngineLaws (s.retire named) :=
  (engineLaws_keptByRetirement named).retire_kept h

end

end Sys2Proof.Machine
end

section
/-! PROOFS. Every step keeps the laws of the Compute Queue and the engine (O57). -/

namespace Sys2Proof.Machine

section
variable {s : State} {l : Lane} {i : Slot} {r : Segment}

/-! ### Settling, closing and counting (R20, R21, R68) -/

/-- Only a segment owned by AUTO settles into COMPUTING (R21). -/
theorem owner_of_settleRow_compute (h : r.settleRow = .compute) : r.owner = .auto := by
  simp only [Segment.settleRow] at h
  split at h
  · cases h
  · rename_i free
    cases ho : r.owner with
    | auto => rfl
    | console => exact absurd (Or.inl ho) free

/-- The standing a settle leaves: COMPUTING in the first row of R21, SETTLED in the others. -/
theorem settled_standing (r : Segment) (p : Profile) :
    (r.settled p).standing =
      { r.standing with phase := if r.settleRow = .compute then .computing else .settled } := by
  simp only [Segment.settled]
  cases r.settleRow <;> rfl

theorem EngineLaws.settle (h : EngineLaws s) (hr : s.seg i = some r) (measuring : r.phase = .measuring) (pitch : Nat) :
    EngineLaws (s.settle i pitch) := by
  obtain ⟨out, pending⟩ := h.outside hr (by simp [measuring])
  have standing := settled_standing { r with pitch := pitch } (s.profile r.profile)
  simp only [Segment.standing, Standing.mk.injEq] at standing
  obtain ⟨phase, owner, take⟩ := standing
  have settles : r.settleRow ≠ .compute →
      EngineLaws (s.putSeg i (some (({ r with pitch := pitch } : Segment).settled (s.profile r.profile)))) := by
    intro row
    have settled := phase.trans (if_neg row)
    exact h.putSeg (out.computes (by simp [settled]) (by simp [settled]) (take.trans pending))
  simp only [State.settle, hr]
  split
  · rename_i row
    exact h.enqueue out (phase.trans (if_pos row)) (owner.trans (owner_of_settleRow_compute row)) (take.trans pending)
  · rename_i row
    exact (settles (by simp [row])).congr rfl rfl rfl
  · rename_i row
    exact (settles (by simp [row])).congr rfl rfl rfl

theorem EngineLaws.closeSeg (h : EngineLaws s) (i : Slot) (last pitch : Nat) : EngineLaws (s.closeSeg i last pitch) := by
  simp only [State.closeSeg]
  split
  · exact h
  · rename_i r hr
    have closed : EngineLaws (s.putSeg i (some { r with last := some last })) := h.putSame hr rfl
    split
    · rename_i measuring; exact closed.settle (putSeg_seg _ _ _) measuring pitch
    · exact closed

theorem EngineLaws.closeOpen (h : EngineLaws s) (l : Lane) : EngineLaws (s.closeOpen l) := by
  simp only [State.closeOpen]
  split
  · exact h.of_lawView (setMeasure_lawView _ _ _)
  · exact (h.closeSeg _ _ _).of_lawView (setMeasure_lawView _ _ _)

theorem EngineLaws.countFrames (h : EngineLaws s) (l : Lane) (perforations coasts : Nat) :
    EngineLaws (s.countFrames l perforations coasts) := by
  simp only [State.countFrames]
  split
  · exact h
  · rename_i i r ho
    have hr := (openSeg_eq_some ho).1
    split
    · rename_i measuring
      split
      · exact (h.putSame (q := { r with
          perforations := addSaturating r.perforations perforations, coasts := addSaturating r.coasts coasts }) hr
          rfl).settle (putSeg_seg _ _ _) measuring _
      · exact h.putSame hr rfl
    · exact h.putSame hr rfl

/-! ### Accumulators and candidates (chapter 5) -/

/-- A REGRADING segment that reaches the window size enters COMPUTING (R109); any other keeps its standing. -/
theorem EngineLaws.accumulate (h : EngineLaws s) (i : Slot) (acc : Accum) : EngineLaws (s.accumulate i acc) := by
  simp only [State.accumulate]
  split
  · exact h
  · rename_i r hr
    split
    · rename_i full
      obtain ⟨out, pending⟩ := h.outside hr (by simp [full.1])
      exact h.enqueue out rfl ((h.computes i r hr).2.1 (Or.inr full.1)) pending
    · exact h.putSame hr rfl

theorem EngineLaws.handBack (h : EngineLaws s) (l : Lane) (acc : Accum) : EngineLaws (s.handBack l acc) := by
  simp only [State.handBack]
  split
  · exact h
  · split
    · exact h.accumulate _ _
    · exact h

theorem EngineLaws.teardownQueue (h : EngineLaws s) (l : Lane) : EngineLaws (s.teardownQueue l) :=
  EngineLaws.onLane (List.foldlRecOn _ _ h fun _ ht e _ => ht.handBack l e.acc) l _

theorem EngineLaws.arrive (h : EngineLaws s) (l : Lane) (c : Candidate) : EngineLaws (s.arrive l c) := by
  simp only [State.arrive]
  split
  · exact h
  · split
    · exact h
    · split
      · exact h.congr rfl rfl rfl
      · split
        · split
          · exact (h.handBack l _).congr rfl rfl rfl
          · exact h.congr rfl rfl rfl
        · split
          · exact h.congr rfl rfl rfl
          · exact h

/-! ### Records opened, and the end of a reel (R2, R44, R59, R89) -/

/-- A slot off the Free List is FREE until its record is written (R2). -/
theorem seg_of_allocate {t : State} {j : Slot} (h : SlotLaws s) (allocated : s.allocate l = some (j, t)) :
    t.seg j = none := by
  obtain ⟨rest, free, -, rfl⟩ := allocate_eq_some.mp allocated
  exact h.freed j (by simp [free])

theorem EngineLaws.allocate {t : State} {j : Slot} (h : EngineLaws s) (allocated : s.allocate l = some (j, t)) :
    EngineLaws t := by
  obtain ⟨rest, -, -, rfl⟩ := allocate_eq_some.mp allocated
  exact h.congr rfl rfl rfl

/-- A new record, neither COMPUTING nor REGRADING and with no take pending, in a FREE slot. -/
theorem EngineLaws.install {j : Slot} {q : Segment} (h : EngineLaws s) (free : s.seg j = none)
    (phase : q.phase = .measuring ∨ q.phase = .settled) (pending : q.takePending = false) (l : Lane)
    (place : List Slot → List Slot) : EngineLaws (s.install l j q place) := by
  have law : SlotComputes s j q := by
    rcases phase with e | e <;> exact (h.outside_of_free free).computes (by simp [e]) (by simp [e]) pending
  exact (h.putSeg law).congr rfl rfl rfl

theorem EngineLaws.split {f : Nat} {position : Int} {kind : CandidateKind} {span : Nat} {acc : Accum} {t : State}
    (slots : SlotLaws s) (h : EngineLaws s) (made : s.split l f position kind span acc = some t) : EngineLaws t := by
  simp only [State.split] at made
  split at made
  · rename_i i r j u ho allocated
    have closed : EngineLaws ((u.closeSeg i (f - 1) (r.pitchTo f position)).onSeg i Segment.bump) :=
      ((h.allocate allocated).closeSeg i _ _).onSeg i fun _ => rfl
    have view : ((u.closeSeg i (f - 1) (r.pitchTo f position)).onSeg i Segment.bump).slotView = u.slotView := by
      rw [onSeg_slotView _ _ _ bump_lane, closeSeg_slotView]
    have free := congrFun (congrArg SlotView.lane view) j
    simp only [State.slotView, seg_of_allocate slots allocated, Option.map_none, Option.map_eq_none_iff] at free
    have installed := fun (q : Segment) (phase : q.phase = .measuring) (pending : q.takePending = false) =>
      (closed.install free (Or.inl phase) pending l (· ++ [j])).of_lawView (raise_lawView _ l .splitMade (some j))
    cases made
    split
    · exact (installed _ rfl rfl).settle ((raise_seg _ _ _ _ _).trans (install_seg _ _ _ _ _)) rfl _
    · exact installed _ rfl rfl
  · cases made

theorem EngineLaws.firstLock (slots : SlotLaws s) (h : EngineLaws s) (l : Lane) (a c : Int) :
    EngineLaws (s.firstLock l a c) := by
  simp only [State.firstLock]
  split
  · rename_i i t d allocated _
    have installed := (h.allocate allocated).install (q := startSegment l d (t.profile d.profile) a)
      (seg_of_allocate slots allocated) (Or.inl rfl) rfl l (· ++ [i])
    exact EngineLaws.recheck (installed.of_lawView (by simp)) _
  · exact h.of_lawView (by simp)

theorem EngineLaws.enterEnded (h : EngineLaws s) (l : Lane) : EngineLaws (s.enterEnded l) := by
  have closed := (h.teardownQueue l).closeOpen l
  simp only [State.enterEnded]
  refine EngineLaws.dispose (EngineLaws.raise (EngineLaws.onLane ?_ l _) l .runout _) _
  split
  · exact closed.revise _ _
  · exact closed

/-! ### The closing and the reset of a lane (R33, R152, R153) -/

theorem EngineLaws.stopRegradeAt (h : EngineLaws s) (i : Slot) : EngineLaws (s.stopRegradeAt i) := by
  simp only [State.stopRegradeAt]
  split
  · exact h
  · rename_i r hr
    split
    · rename_i regrading
      obtain ⟨out, pending⟩ := h.outside hr (by simp [regrading])
      exact (h.putSeg (q := r.stopRegrade) (out.computes nofun nofun pending)).congr rfl rfl rfl
    · exact h

theorem EngineLaws.beginClosing (h : EngineLaws s) (l : Lane) : EngineLaws (s.beginClosing l) := by
  simp only [State.beginClosing]
  refine EngineLaws.onLane (List.foldlRecOn _ _ (List.foldlRecOn _ _ (List.foldlRecOn _ _ ?_ ?_) ?_) ?_) l _
  · exact ((h.of_lawView (onTracker_lawView _ _ _)).teardownQueue l).closeOpen l
  · exact fun _ ht i _ => ht.stopRegradeAt i
  · exact fun _ ht i _ => ht.revise s i
  · exact fun _ ht i _ => ht.onSeg i fun _ => rfl

theorem EngineLaws.closeReel (h : EngineLaws s) (l : Lane) : EngineLaws (s.closeReel l) := by
  have closing : EngineLaws ((s.beginClosing l).closeDeferrals l) := (h.beginClosing l).dispose _
  exact ((engineLaws_keptByRetirement _).retireChain_kept closing l).endClosing l

/-- A computation of a lane that is reset is cancelled, and the engine then begins the next (R34). -/
theorem EngineLaws.laneReset (h : EngineLaws s) (l : Lane) : EngineLaws (s.laneReset l) := by
  simp only [State.laneReset]
  have freed := List.foldlRecOn (motive := EngineStands) (s.chain l) State.freeSlot
    (h.dispose fun e => if e.lane = l then .answer (s.plainAnswer e.tag e.lane e.frame .closed) else .keep e).stands
    fun _ ht i _ => ht.freeSlot i
  exact EngineStands.engineBegin (freed.of_standings (fun _ => rfl) rfl rfl)

/-! ### The console's requests (chapter 7) -/

/-- A hold that is dropped changes the owner to AUTO and cancels a pending take: no phase changes. -/
theorem dropHold_phase (r : Segment) : r.dropHold.phase = r.phase := by
  simp only [Segment.dropHold]
  split <;> rfl

theorem SlotComputes.dropHold (h : SlotComputes s i r) : SlotComputes s i r.dropHold := by
  obtain ⟨computing, -, -⟩ := h
  obtain ⟨owner, pending⟩ := dropHold_free r
  refine ⟨by rw [dropHold_phase]; exact computing, fun _ => owner, by simp [pending]⟩

theorem EngineLaws.dropHolds (h : EngineLaws s) (named : Slot → Bool) (notice : PartKind) (slot : Option Slot) :
    EngineLaws (s.dropHolds named notice slot) := by
  simp only [State.dropHolds]
  have dropped : EngineLaws { s with segments := Vector.ofFn fun i =>
      if (named i && s.heldByConsole i) = true then (s.seg i).map Segment.dropHold else s.seg i } := by
    refine ⟨h.distinct, h.apart, fun i hi => ?_, h.idle, fun i q hq => ?_⟩
    · have recorded := h.recorded i hi
      simp only [State.seg, Vector.getElem_ofFn]
      split
      · rw [Option.isSome_map]; exact recorded
      · exact recorded
    · simp only [State.seg, Vector.getElem_ofFn] at hq
      split at hq
      · obtain ⟨r, hr, rfl⟩ := Option.map_eq_some_iff.mp hq
        exact (h.computes i r hr).dropHold.congr rfl Iff.rfl Iff.rfl
      · exact (h.computes i q hq).congr rfl Iff.rfl Iff.rfl
  split
  · exact (dropped.of_lawView (raisePart_lawView _ notice slot)).retire _
  · exact dropped

/-- A segment whose computation is in the engine and that is written SETTLED leaves the engine, which is then IDLE. -/
theorem EngineLaws.leaveEngine {q : Segment} (h : EngineLaws s) (here : s.engine = some i) (phase : q.phase = .settled)
    (pending : q.takePending = false) : EngineStands { s.putSeg i (some q) with engine := none } := by
  refine h.stands.changedAt i (fun j => putSeg_seg_other s i _ j) (fun _ _ => Iff.rfl)
    (fun j hj => ⟨nofun, fun e => absurd (Option.some.inj (here.symm.trans e)).symm hj⟩) h.distinct nofun
    (fun _ => (congrArg Option.isSome (putSeg_seg s i (some q))).trans rfl) fun r hr => ?_
  cases (putSeg_seg s i (some q)).symm.trans hr
  exact State.Outside.computes ⟨h.apart i here, nofun⟩ (by simp [phase]) (by simp [phase]) pending

/-- A queued segment that is written SETTLED leaves the Compute Queue. -/
theorem EngineLaws.leaveQueue {q : Segment} (h : EngineLaws s) (there : s.engine ≠ some i) (phase : q.phase = .settled)
    (pending : q.takePending = false) :
    EngineLaws { s.putSeg i (some q) with computeQueue := s.computeQueue.erase i } := by
  refine EngineStands.laws (h.stands.changedAt i (fun j => putSeg_seg_other s i _ j)
    (fun j hj => List.mem_erase_of_ne hj) (fun _ _ => Iff.rfl) (h.distinct.erase i) (fun here => absurd here there)
    (fun _ => (congrArg Option.isSome (putSeg_seg s i (some q))).trans rfl) fun r hr => ?_) fun idle => ?_
  · cases (putSeg_seg s i (some q)).symm.trans hr
    exact State.Outside.computes ⟨h.distinct.not_mem_erase, there⟩ (by simp [phase]) (by simp [phase]) pending
  · simp [h.idle idle]

theorem EngineLaws.takeSegment (h : EngineLaws s) (hr : s.seg i = some r) (untaken : r.takePending = false) :
    EngineLaws (s.takeSegment i r) := by
  have written : ∀ q : Segment, r.phase ≠ .computing → q.phase = .measuring ∨ q.phase = .settled →
      q.takePending = r.takePending → EngineLaws (s.putSeg i (some q)) := by
    intro q was phase same
    obtain ⟨out, -⟩ := h.outside hr was
    exact h.putSeg (by rcases phase with e | e <;> exact out.computes (by simp [e]) (by simp [e]) (same.trans untaken))
  simp only [State.takeSegment]
  split
  · rename_i phase
    exact (written r.taken (by simp [phase]) (Or.inl phase) rfl).of_lawView (ok_lawView _ _ _)
  · rename_i phase
    exact (written r.taken (by simp [phase]) (Or.inr phase) rfl).of_lawView (ok_lawView _ _ _)
  · rename_i phase
    exact ((written r.takenRegrading (by simp [phase]) (Or.inr rfl) rfl).raise _ _ _).of_lawView (ok_lawView _ _ _)
  · split
    · rename_i here
      obtain ⟨computing, owner, -⟩ := h.computes i r hr
      exact (h.putSeg (q := { r with takePending := true }) ⟨computing, owner, fun _ => here⟩).of_lawView
        (reply_lawView _ _ _ _ _)
    · rename_i there
      have unqueued := h.leaveQueue (q := r.takenQueued) there rfl untaken
      have rechecked : EngineLaws (s.takeQueued i r) := (unqueued.raise _ _ _).recheck _
      exact rechecked.of_lawView (ok_lawView _ _ _)

theorem EngineLaws.cutSegment {j : Slot} {t : State} (slots : SlotLaws s) (h : EngineLaws s) (hr : s.seg i = some r)
    (frame : Nat) (allocated : s.allocate r.lane = some (j, t)) :
    EngineLaws (t.cutSegment i j r frame) := by
  have free := seg_of_allocate slots allocated
  have kept : t.seg i = some r := by
    obtain ⟨rest, -, -, rfl⟩ := allocate_eq_some.mp allocated
    exact hr
  have apart : j ≠ i := fun e => by rw [e, kept] at free; cases free
  have first := (h.allocate allocated).putSame (q := ({ r with last := some (frame - 1) } : Segment).bump) kept rfl
  have installed := first.install
    (q := r.secondPart (((t.lane r.lane).reel.load.map ReelLoad.profile).getD r.profile) frame (t.lastCovered r))
    ((putSeg_seg_other _ _ _ _ apart).trans free) (Or.inr rfl) rfl r.lane (insertAfter i j)
  simp only [State.cutSegment]
  split
  · exact (installed.onLane _ _).recheck _
  · exact installed.recheck _

theorem EngineLaws.joinSegments {j : Slot} {b : Segment} (h : EngineLaws s) (hr : s.seg i = some r)
    (hb : s.seg j = some b) (first : r.phase = .settled) (second : b.phase = .settled) :
    EngineLaws (s.joinSegments i j r b) := by
  have joined := h.putSame (q := r.joined b) hr rfl
  have freed : EngineLaws ((s.putSeg i (some (r.joined b))).freeSlot j) := by
    by_cases e : j = i
    · subst e; exact joined.freeSlot (putSeg_seg _ _ _) (by simp [Segment.joined, Segment.bump, first])
    · exact joined.freeSlot ((putSeg_seg_other _ _ _ _ e).trans hb) (by simp [second])
  exact freed.recheck _

/-! ### Completion and summaries (R103, R104, R107) -/

theorem completed_phase (r : Segment) (p : Profile) : (r.completed p).phase = .settled := by
  simp only [Segment.completed]
  split <;> rfl

theorem completed_takePending (r : Segment) (p : Profile) : (r.completed p).takePending = false := by
  simp only [Segment.completed]
  split <;> rfl

theorem completionNotices_lawView (s : State) (i : Slot) (r : Segment) :
    (s.completionNotices i r).lawView = s.lawView := by
  simp only [State.completionNotices]
  split <;> split <;> simp

theorem EngineLaws.complete (h : EngineLaws s) : EngineLaws s.complete := by
  simp only [State.complete]
  split
  · exact h
  · rename_i i here
    split
    · rename_i free
      exact absurd here (h.outside_of_free free).2
    · rename_i r hr
      have left := h.leaveEngine (q := r.completed (s.profile r.profile)) here (completed_phase r _)
        (completed_takePending r _)
      have view := completionNotices_lawView (s.putSeg i (some (r.completed (s.profile r.profile)))) i r
      have segments := congrArg LawView.segments view
      have queue := congrArg LawView.computeQueue view
      have noticed : EngineStands
          { (s.putSeg i (some (r.completed (s.profile r.profile)))).completionNotices i r with engine := none } :=
        left.of_standings (fun j => congrArg (fun v => (v[j.val]).map Segment.standing) segments) queue rfl
      exact EngineLaws.retire (noticed.engineBegin.recheck _) _

theorem EngineLaws.densityWatch (h : EngineLaws s) (l : Lane) (f : Nat) (mean : Rgb Nat) :
    EngineLaws (s.densityWatch l f mean) := by
  simp only [State.densityWatch]
  split
  · exact h
  · split
    · split
      · exact h
      · split
        · exact h.arrive l _
        · exact h
    · exact h

theorem EngineLaws.routeSummary (h : EngineLaws s) (l : Lane) (f : Nat) (black white mean : Rgb Nat) :
    EngineLaws (s.routeSummary l f black white mean) := by
  simp only [State.routeSummary, State.addToSegment]
  split
  · exact h.congr rfl rfl rfl
  · split
    · split
      · exact (h.accumulate _ _).revise _ _
      · exact h
    · exact h

theorem EngineLaws.takeSummary (h : EngineLaws s) (lane frame : Nat) (black white mean : Rgb Nat) :
    EngineLaws (s.takeSummary lane frame black white mean) := by
  have status : ∀ (u : State) (x : LinkStatus), EngineLaws u → EngineLaws (u.setStatus x) :=
    fun _ _ hu => hu.onLookup _
  simp only [State.takeSummary]
  split
  · exact status _ _ h
  · split
    · exact status _ _ h
    · split
      · exact status _ _ h
      · split
        · exact status _ _ h
        · exact status _ _ ((h.densityWatch _ _ _).routeSummary _ _ _ _ _)

/-! ### Lookups and the lease -/

theorem EngineLaws.takeLookup (h : EngineLaws s) (tag lane frame : Nat) : EngineLaws (s.takeLookup tag lane frame) := by
  have placed : ∀ l, EngineLaws (s.placeLookup tag l frame) := by
    intro l
    simp only [State.placeLookup]
    repeat' split
    all_goals exact h.onLookup _
  simp only [State.takeLookup]
  split
  · exact h.onLookup _
  · split
    · exact h.onLookup _
    · split
      · exact h.onLookup _
      · split
        · exact h.onLookup _
        · exact (placed _).onLookup _

theorem EngineLaws.expireEntry (h : EngineLaws s) (e : Deferral) : EngineLaws (s.expireEntry e) :=
  ((h.onLookup _).raisePart _ _).retire _

theorem EngineLaws.expire (h : EngineLaws s) : EngineLaws s.expire := by
  simp only [State.expire]
  split
  · exact h
  · exact h.expireEntry _

theorem EngineLaws.expireEach (h : EngineLaws s) (due : List Deferral) : EngineLaws (s.expireEach due) :=
  List.foldlRecOn _ _ h fun _ ht e _ => ht.expireEntry e

theorem EngineLaws.deferralTick (h : EngineLaws s) : EngineLaws s.deferralTick := by
  simp only [State.deferralTick, State.countDown]
  exact (h.expireEach _).onLookup _

theorem EngineLaws.leaseExpiry (h : EngineLaws s) : EngineLaws s.leaseExpiry :=
  EngineLaws.dropHolds (s := { s with lease := none }) (h.congr rfl rfl rfl) _ _ _

theorem EngineLaws.leaseTick (h : EngineLaws s) : EngineLaws s.leaseTick := by
  simp only [State.leaseTick]
  split
  · exact h
  · split
    · exact h.leaseExpiry
    · exact h.congr rfl rfl rfl

end


/-! ### Every step -/

/-- The laws of the Free List and the chains with those of the Compute Queue and the engine: a slot off the Free List is FREE, and so stands outside the queue and the engine. -/
structure SlotAndEngineLaws (s : State) : Prop where
  slots : SlotLaws s
  engine : EngineLaws s

/-- The acts of the film side keep the laws, which ask nothing of the Candidate Queues. -/
theorem slotAndEngineLaws_keptByFilm : KeptByFilm SlotAndEngineLaws fun _ => True where
  unseen hv h := ⟨slotLaws_keptByFilm.unseen hv h.slots, h.engine.of_lawView hv⟩
  sublist _ _ := trivial
  counted _ := trivial
  fresh _ := trivial
  queued _ _ := trivial
  setQueue l _ h ok := ⟨slotLaws_keptByFilm.setQueue l h.slots ok, h.engine.onLane _ _⟩
  handBack l acc h := ⟨slotLaws_keptByFilm.handBack l acc h.slots, h.engine.handBack l acc⟩
  split h _ made := ⟨h.slots.split made, h.engine.split h.slots made⟩
  countFrames l perforations coasts h :=
    ⟨slotLaws_keptByFilm.countFrames l perforations coasts h.slots, h.engine.countFrames l perforations coasts⟩
  revise i hb h := ⟨slotLaws_keptByFilm.revise i hb.slots h.slots, h.engine.revise _ i⟩
  recheck concerned h := ⟨slotLaws_keptByFilm.recheck concerned h.slots, h.engine.recheck concerned⟩
  arrive l c h fresh := ⟨slotLaws_keptByFilm.arrive l h.slots fresh, h.engine.arrive l c⟩
  firstLock a c h scanning := ⟨slotLaws_keptByFilm.firstLock a c h.slots scanning, h.engine.firstLock h.slots _ a c⟩
  enterEnded l h := ⟨h.slots.enterEnded l, h.engine.enterEnded l⟩

/-- The effects of the commands keep the laws. -/
theorem slotAndEngineLaws_keptByEffects : KeptByEffects SlotAndEngineLaws where
  unseen hv h := ⟨slotLaws_keptByEffects.unseen hv h.slots, h.engine.of_lawView hv⟩
  powerOn := ⟨reset_slotLaws, reset_engineLaws⟩
  partReset h := ⟨slotLaws_keptByEffects.partReset h.slots, reset_engineLaws.congr rfl rfl rfl⟩
  load d h empty := ⟨h.slots.load d empty, h.engine.onLane _ _⟩
  restate f h chain queue state := ⟨slotLaws_keptByEffects.restate f h.slots chain queue state, h.engine.onLane _ f⟩
  unloadLoaded h loaded := ⟨h.slots.unloadLoaded loaded, (h.engine.onLane _ _).raise _ _ _⟩
  closeReel h _ := ⟨h.slots.closeReel _, h.engine.closeReel _⟩
  laneReset l h := ⟨h.slots.laneReset l, h.engine.laneReset l⟩
  relayout _ h _ _ _ := ⟨h.slots.of_slotView rfl, h.engine.onLookup _⟩
  enable _ _ h _ := ⟨h.slots.of_slotView rfl, h.engine.onLookup _⟩
  disableLink h := ⟨h.slots.disableLink, (h.engine.onLookup _).retire _⟩
  setTimers _ _ _ h _ _ _ := ⟨h.slots.of_slotView rfl, h.engine.congr rfl rfl rfl⟩
  reloadLease h := ⟨h.slots.of_slotView rfl, h.engine.congr rfl rfl rfl⟩
  dropHolds named notice slot h := ⟨h.slots.dropHolds named notice slot, h.engine.dropHolds named notice slot⟩
  takeSegment h hr life owner untaken :=
    ⟨slotLaws_keptByEffects.takeSegment h.slots hr life owner untaken,
      h.engine.takeSegment hr (Bool.eq_false_iff.mpr untaken)⟩
  release {s i r} h hr owned := by
    refine ⟨slotLaws_keptByEffects.release h.slots hr owned, ?_⟩
    have law := h.engine.computes i r hr
    exact ((h.engine.putSeg (q := r.handedBack) ⟨law.1, fun _ => rfl, law.2.2⟩).raisePart _ _).retire _
  consoleWrite lift gain fade source along across lamp cadence h hr owner :=
    ⟨slotLaws_keptByEffects.consoleWrite lift gain fade source along across lamp cadence h.slots hr owner,
      h.engine.putSame hr rfl⟩
  cut h hr _ _ _ allocated := ⟨h.slots.cutSegment hr _ allocated, h.engine.cutSegment h.slots hr _ allocated⟩
  join h hr hb _ _ phases _ :=
    ⟨h.slots.joinSegments hr, h.engine.joinSegments hr hb (Decidable.of_not_not (not_or.mp phases).1)
      (Decidable.of_not_not (not_or.mp phases).2)⟩
  regrade {s i r} h hr life owner phase := by
    refine ⟨slotLaws_keptByEffects.regrade h.slots hr life owner phase, ?_⟩
    obtain ⟨out, untaken⟩ := h.engine.outside hr (by simp [Decidable.of_not_not phase])
    have auto : r.owner = .auto := by cases ho : r.owner with
      | auto => rfl
      | console => exact absurd ho owner
    exact h.engine.putSeg (q := r.regraded) (out.computes nofun (fun _ => auto) untaken)
  deliver _ _ h := ⟨h.slots.of_slotView rfl, h.engine.onLookup _⟩
  takeLookup tag lane frame h :=
    ⟨slotLaws_keptByEffects.takeLookup tag lane frame h.slots, h.engine.takeLookup tag lane frame⟩
  takeSummary lane frame black white mean h :=
    ⟨slotLaws_keptByEffects.takeSummary lane frame black white mean h.slots,
      h.engine.takeSummary lane frame black white mean⟩
  perfWord l position strength h := slotAndEngineLaws_keptByFilm.perfWord_kept h l position strength
  spliceWord l position kind h := slotAndEngineLaws_keptByFilm.spliceWord_kept h l position kind
  travelWord l position h := slotAndEngineLaws_keptByFilm.travelWord_kept h l position
  runoutWord l position h := slotAndEngineLaws_keptByFilm.runoutWord_kept h l position
  complete h := ⟨h.slots.complete, h.engine.complete⟩
  deferralTick h := ⟨h.slots.deferralTick, h.engine.deferralTick⟩
  expire h := ⟨h.slots.expire, h.engine.expire⟩
  leaseTick h := ⟨h.slots.leaseTick, h.engine.leaseTick⟩
  leaseExpiry h := ⟨h.slots.leaseExpiry, h.engine.leaseExpiry⟩

/-- Settles O57: each effect moves at most one record into or out of COMPUTING together with its slot, and a slot allocated stands outside the queue and the engine. -/
theorem engineLawsKept : Obligations.EngineLawsKept :=
  fun _ t slots engine next => (slotAndEngineLaws_keptByEffects.step_kept ⟨slots, engine⟩ t next).engine

end Sys2Proof.Machine
end

section
/-! PROOFS. The requests that name a slot: REGRADE (O33), and those that name a FREE slot or one above 159 (O34). -/

namespace Sys2Proof.Machine

section
variable {s : State} (k : PortName) (act : Slot → Segment → State)

/-! ### The slot a request names -/

theorem withSegment_of_above {n : Nat} (h : 160 ≤ n) : s.withSegment k n act = s.refuse k .badSlot := by
  simp only [State.withSegment, slotOf_none h]

theorem withSegment_of_free {i : Slot} (h : s.seg i = none) : s.withSegment k i.val act = s.refuse k .notLive := by
  simp only [State.withSegment, slotOf_val, h]

theorem withSegment_of_seg {i : Slot} {r : Segment} (h : s.seg i = some r) : s.withSegment k i.val act = act i r := by
  simp only [State.withSegment, slotOf_val, h]

end

/-! ### The arms of the requests -/

section
variable (s : State) (k : PortName) (n : Nat)

theorem exec_take : exec (.take n) s = execTake n s := rfl
theorem exec_release : exec (.release n) s = execRelease n s := rfl
theorem exec_setGrade (lift : Rgb Int) (gain : Rgb Nat) (fade : Nat) :
    exec (.setGrade n lift gain fade) s = execSetGrade n lift gain fade s := rfl
theorem exec_setOffset (along across : Int) : exec (.setOffset n along across) s = execSetOffset n along across s := rfl
theorem exec_setLamp (lamp : Nat) : exec (.setLamp n lamp) s = execSetLamp n lamp s := rfl
theorem exec_setCadence (cadence : Nat) : exec (.setCadence n cadence) s = execSetCadence n cadence s := rfl
theorem exec_cut (frame : Nat) : exec (.cut n frame) s = execCut n frame s := rfl
theorem exec_join : exec (.join n) s = execJoin n s := rfl
theorem exec_regrade : exec (.regrade k n) s = execRegrade k n s := rfl
theorem exec_forceRelease : exec (.forceRelease n) s = execForceRelease n s := rfl

end

/-! ### REGRADE (R108) -/

/-- A segment that is not REGRADING is busy while it is not SETTLED: MEASURING or COMPUTING. -/
theorem phase_busy_iff {x : Phase} (h : x ≠ .regrading) : x ≠ .settled ↔ x = .measuring ∨ x = .computing := by
  cases x <;> simp at h ⊢

/-- Settles O33: the slot named is refused or its record passes the tests of R108 in their order. -/
theorem regradeTestsAndEffect : Obligations.RegradeTestsAndEffect := by
  intro s k released
  simp only [exec_regrade, execRegrade, unlessReset_released released]
  refine ⟨fun n above => by rw [withSegment_of_above k _ above], fun i free => by rw [withSegment_of_free k _ free],
    fun i r hr => ?_⟩
  rw [withSegment_of_seg k _ hr]
  by_cases regrading : r.phase = .regrading
  · simp only [if_pos regrading]
  · simp only [phase_busy_iff regrading]
    rfl

/-! ### FREE slots and slots above 159 -/

/-- The requests that act on one named slot, each with its link; FORCE_RELEASE, for which 255 is ALL, is apart. -/
def slotRequests (k : PortName) (n : Nat) (lift : Rgb Int) (gain : Rgb Nat) (along across : Int)
    (fade lamp cadence frame : Nat) : List (PortName × Instr) :=
  [(.grading, .take n), (.grading, .release n), (.grading, .setGrade n lift gain fade),
   (.grading, .setOffset n along across), (.grading, .setLamp n lamp), (.grading, .setCadence n cadence),
   (.grading, .cut n frame), (.grading, .join n), (k, .regrade k n)]

/-- Each of them looks its slot up before anything else. -/
theorem exec_slotRequest (s : State) (k : PortName) (n : Nat) (lift : Rgb Int) (gain : Rgb Nat) (along across : Int)
    (fade lamp cadence frame : Nat) :
    ∀ p ∈ slotRequests k n lift gain along across fade lamp cadence frame,
      ∃ act : State → Slot → Segment → State, exec p.2 s = s.unlessReset fun u => u.withSegment p.1 n (act u) := by
  simp only [slotRequests, List.forall_mem_cons]
  exact ⟨⟨_, exec_take s n⟩, ⟨_, exec_release s n⟩, ⟨_, exec_setGrade s n lift gain fade⟩,
    ⟨_, exec_setOffset s n along across⟩, ⟨_, exec_setLamp s n lamp⟩, ⟨_, exec_setCadence s n cadence⟩,
    ⟨_, exec_cut s n frame⟩, ⟨_, exec_join s n⟩, ⟨_, exec_regrade s k n⟩, nofun⟩

/-- FORCE_RELEASE of any slot but ALL looks its slot up before anything else. -/
theorem exec_forceRelease_slot {s : State} {n : Nat} (released : s.resetHeld = false) (one : n ≠ 255) :
    ∃ act : Slot → Segment → State, exec (.forceRelease n) s = .next (s.withSegment .control n act) := by
  rw [exec_forceRelease, execForceRelease, unlessReset_released released, if_neg one]
  exact ⟨_, rfl⟩

/-- Settles O34: the look-up of the slot answers BAD_SLOT above 159 and NOT_LIVE on a FREE slot. -/
theorem requestsOnFreeSlotsRefused : Obligations.RequestsOnFreeSlotsRefused := by
  intro s k lift gain along across fade lamp cadence frame n released nine
  have request := exec_slotRequest s k n lift gain along across fade lamp cadence frame
  refine ⟨fun i named free p hp => ?_, fun above p hp => ?_, fun above one => ?_⟩
  · subst named
    rcases List.mem_append.mp hp with inNine | force
    · obtain ⟨act, e⟩ := request p inNine
      rw [e, unlessReset_released released, withSegment_of_free _ _ free]
    · rw [List.mem_singleton.mp force]
      obtain ⟨act, e⟩ := exec_forceRelease_slot (n := i.val) released (by omega)
      rw [e, withSegment_of_free _ _ free]
  · obtain ⟨act, e⟩ := request p hp
    rw [e, unlessReset_released released, withSegment_of_above _ _ above]
  · obtain ⟨act, e⟩ := exec_forceRelease_slot released one
    rw [e, withSegment_of_above _ _ above]

end Sys2Proof.Machine
end

section
/-! PROOFS. A SUMMARY refused (O44): the tests of R99 in their order. -/

namespace Sys2Proof.Machine

section
variable {s : State} {l : Lane} {frame : Nat} {black white mean : Rgb Nat}

/-- A value past 4095 among the nine fails the test of the statistics (R99). -/
theorem statistics_of_beyond
    (h : ∃ v ∈ [black.r, black.g, black.b, white.r, white.g, white.b, mean.r, mean.g, mean.b], 4095 < v) :
    (statisticsOk black && statisticsOk white && statisticsOk mean) = false := by
  simp only [statisticsOk, ← Bool.decide_and, decide_eq_false_iff_not]
  simp only [List.mem_cons, List.not_mem_nil, or_false, exists_eq_or_imp, exists_eq_left] at h
  omega

/-- A frame is ahead of the tracker's current frame, or of an absent one (R44, R136). -/
theorem isAhead_iff : s.isAhead l frame = true ↔ ∀ c, (s.lane l).tracker.current = some c → c < frame := by
  simp only [State.isAhead]
  cases (s.lane l).tracker.current <;> simp

/-- With the link disabled a SUMMARY is refused (R99). -/
theorem takeSummary_of_disabled {lane : Nat} (h : s.lookup.enabled = false) :
    s.takeSummary lane frame black white mean = s.setStatus .disabled := by
  simp only [State.takeSummary, h, if_true]

/-- A lane, a frame or a value out of its range is refused with BAD_FRAME (R99). -/
theorem takeSummary_of_outside {lane : Nat} (enabled : s.lookup.enabled = true)
    (h : 4 ≤ lane ∨ Config.frameMax < frame ∨
      (statisticsOk black && statisticsOk white && statisticsOk mean) = false) :
    s.takeSummary lane frame black white mean = s.setStatus .badFrame := by
  simp only [State.takeSummary, enabled, Bool.true_eq_false, if_false]
  rcases h with lane | values
  · split
    · rfl
    · rw [laneOf_none lane]
  · exact if_pos values

/-- A SUMMARY in its ranges is refused with the status that the lane's tests give (R99). -/
theorem takeSummary_of_laneTest {x : LinkStatus} (enabled : s.lookup.enabled = true) (inRange : frame ≤ Config.frameMax)
    (hb : statisticsOk black = true) (hw : statisticsOk white = true) (hm : statisticsOk mean = true)
    (h : s.summaryLaneTests l frame = some x) : s.takeSummary l.val frame black white mean = s.setStatus x := by
  have legal : ¬(Config.frameMax < frame ∨ (statisticsOk black && statisticsOk white && statisticsOk mean) = false) := by
    simp [hb, hw, hm, inRange]
  simp only [State.takeSummary, enabled, Bool.true_eq_false, if_false, if_neg legal, laneOf_val, h]

/-- With no reel that takes summaries the lane's tests give NO_REEL. -/
theorem summaryLaneTests_of_noReel
    (h : (s.lane l).reel.state = .empty ∨ (s.lane l).reel.state = .loaded ∨ (s.lane l).reel.state = .closing) :
    s.summaryLaneTests l frame = some .noReel := by
  rcases h with e | e | e <;> simp only [State.summaryLaneTests, e]

/-- A frame past the last of an ENDED reel gives OUT_OF_RANGE. -/
theorem summaryLaneTests_of_ended (state : (s.lane l).reel.state = .ended) (ahead : s.isAhead l frame = true) :
    s.summaryLaneTests l frame = some .outOfRange := by
  simp only [State.summaryLaneTests, state, ahead, if_true]

/-- A frame not yet taken gives REFUSED_AHEAD. -/
theorem summaryLaneTests_of_ahead (state : (s.lane l).reel.state = .scanning ∨ (s.lane l).reel.state = .paused)
    (ahead : s.isAhead l frame = true) : s.summaryLaneTests l frame = some .refusedAhead := by
  rcases state with e | e <;> simp only [State.summaryLaneTests, e, ahead, if_true]

/-- A frame taken that no segment of the chain holds gives OUT_OF_RANGE. -/
theorem summaryLaneTests_of_lost
    (state : (s.lane l).reel.state = .scanning ∨ (s.lane l).reel.state = .paused ∨ (s.lane l).reel.state = .ended)
    (taken : s.isAhead l frame = false) (lost : ∀ i r, s.find l frame ≠ .found i r) :
    s.summaryLaneTests l frame = some .outOfRange := by
  cases found : s.find l frame with
  | found i r => exact absurd found (lost i r)
  | past => rcases state with e | e | e <;> simp [State.summaryLaneTests, e, taken, found]
  | absent => rcases state with e | e | e <;> simp [State.summaryLaneTests, e, taken, found]

end

/-- Settles O44: each test of R99 that fails writes its status, and no test before it did. -/
theorem summaryRefused : Obligations.SummaryRefused := by
  intro s frame black white mean released
  have refused : ∀ {lane : Nat} {x : LinkStatus}, s.takeSummary lane frame black white mean = s.setStatus x →
      exec (.summary lane frame black white mean) s = .next { s with lookup := { s.lookup with status := x } } := by
    intro lane x e
    rw [exec_summary, execSummary, unlessReset_released released, e]
    rfl
  refine ⟨fun lane disabled => refused (takeSummary_of_disabled disabled), fun enabled => ⟨fun lane outside => ?_,
    fun l inRange hb hw hm => ?_⟩⟩
  · exact refused (takeSummary_of_outside enabled (outside.imp_right fun h => h.imp_right statistics_of_beyond))
  · have tested {x : LinkStatus} (e : s.summaryLaneTests l frame = some x) :=
      refused (takeSummary_of_laneTest enabled inRange hb hw hm e)
    refine ⟨fun state => tested (summaryLaneTests_of_noReel state),
      fun state ahead => tested (summaryLaneTests_of_ended state (isAhead_iff.mpr ahead)),
      fun state ahead => tested (summaryLaneTests_of_ahead state (isAhead_iff.mpr ahead)),
      fun c state current taken lost => tested (summaryLaneTests_of_lost state ?_ lost)⟩
    simp [State.isAhead, current, taken]

end Sys2Proof.Machine
end

section
/-! PROOFS. A re-check of deferrals (R139, R145): what it reads, what it leaves, and the answer of an entry whose segment has settled. -/

namespace Sys2Proof.Machine

/-! ### What a re-check does to the lookup unit -/

/-- What an event makes of an entry, as recheckOutcome writes it. -/
def Disposal.outcome : Disposal → Deferral ⊕ Answer
  | .keep e => .inl e
  | .answer a => .inr a

theorem filterMap_kept (ds : List Disposal) :
    ds.filterMap Disposal.kept = (ds.map Disposal.outcome).filterMap Sum.getLeft? := by
  rw [List.filterMap_map]
  exact congrArg (List.filterMap · ds) (funext fun d => by cases d <;> rfl)

theorem filterMap_made (ds : List Disposal) :
    ds.filterMap Disposal.made = (ds.map Disposal.outcome).filterMap Sum.getRight? := by
  rw [List.filterMap_map]
  exact congrArg (List.filterMap · ds) (funext fun d => by cases d <;> rfl)

theorem recheckEntry_outcome (s : State) (e : Deferral) : (s.recheckEntry e).outcome = recheckOutcome s e := by
  simp only [State.recheckEntry, recheckOutcome]
  split
  · simp only [State.recheckClosing]
    cases s.find e.lane e.frame with
    | found i r =>
      by_cases settled : r.phase = .settled
      · simp only [if_pos settled, Disposal.outcome, State.answerFrom]
      · simp only [if_neg settled, Disposal.outcome]
    | past => rfl
    | absent => rfl
  · cases s.classify e.lane e.frame <;> rfl

/-- A re-check writes the lookup unit alone, as recheckedUnit has it (R139). -/
theorem recheck_eq (s : State) (concerned : Deferral → Bool) :
    s.recheck concerned = { s with lookup := recheckedUnit s concerned s.lookup } := by
  have outcomes : (s.lookup.deferred.map fun e => if concerned e then s.recheckEntry e else .keep e).map
      Disposal.outcome = s.lookup.deferred.map fun e => if concerned e then recheckOutcome s e else .inl e := by
    rw [List.map_map]
    refine List.map_congr_left fun e _ => ?_
    simp only [Function.comp_apply]
    split
    · exact recheckEntry_outcome s e
    · rfl
  simp only [State.recheck, dispose_eq, filterMap_kept, filterMap_made, outcomes]
  rfl

/-- An entry that stays after a re-check is one there was, as the re-check left it. -/
theorem mem_recheckedUnit_deferred {u : State} {concerned : Deferral → Bool} {x : LookupUnit} {d : Deferral} :
    d ∈ (recheckedUnit u concerned x).deferred ↔
      ∃ e ∈ x.deferred, (if concerned e then recheckOutcome u e else .inl e) = .inl d := by
  simp only [recheckedUnit, List.filterMap_map, List.mem_filterMap, Function.comp_apply, Sum.getLeft?_eq_some_iff]

/-- The answer that a re-check makes of an entry joins the Answer Queue. -/
theorem mem_recheckedUnit_answers {u : State} {concerned : Deferral → Bool} {x : LookupUnit} {e : Deferral} {a : Answer}
    (he : e ∈ x.deferred) (picked : concerned e = true) (made : recheckOutcome u e = .inr a) :
    a ∈ (recheckedUnit u concerned x).answers := by
  refine List.mem_append_right _ (List.mem_filterMap.mpr ⟨.inr a, List.mem_map.mpr ⟨e, he, ?_⟩, rfl⟩)
  rw [if_pos picked, made]

/-- An entry that waits again keeps all but its reason. -/
theorem recheckOutcome_waits {u : State} {e d : Deferral} (h : recheckOutcome u e = .inl d) :
    d = { e with reason := d.reason } := by
  simp only [recheckOutcome] at h
  split at h
  · split at h
    · split at h <;> cases h; rfl
    · cases h; rfl
  · split at h <;> cases h; rfl

/-! ### What a re-check reads -/

/-- The parts of a state that a re-check reads: reels, Candidate Queues, the frame last taken, records and layout. -/
structure LookupView where
  reel : Lane → Reel
  queue : Lane → List Candidate
  current : Lane → Option Nat
  segments : Vector (Option Segment) 160
  layout : List FieldCode

/-- What a re-check reads of a state. -/
def State.lookupView (s : State) : LookupView :=
  { reel := fun l => (s.lane l).reel, queue := fun l => (s.lane l).queue, current := fun l => (s.lane l).tracker.current,
    segments := s.segments, layout := s.lookup.layout }

section
variable {s t : State}

/-- Two states with the same records find the same segment in a list of slots. -/
theorem findCovering_congr (h : t.segments = s.segments) (f : Nat) (is : List Slot) :
    t.findCovering f is = s.findCovering f is := by
  have seg : ∀ i, t.seg i = s.seg i := fun i => by simp only [State.seg, h]
  induction is with
  | nil => rfl
  | cons i rest ih => simp only [State.findCovering, seg, ih]

theorem find_congr (h : t.lookupView = s.lookupView) (l : Lane) (f : Nat) : t.find l f = s.find l f := by
  have chain : t.chain l = s.chain l := congrArg (fun v => (v.reel l).chain) h
  have seg : t.seg = s.seg := funext fun i => congrArg (fun v => v.segments[i.val]) h
  simp only [State.find, chain, seg, findCovering_congr (congrArg LookupView.segments h)]

theorem classify_congr (h : t.lookupView = s.lookupView) (l : Lane) (f : Nat) : t.classify l f = s.classify l f := by
  have state : (t.lane l).reel.state = (s.lane l).reel.state := congrArg (fun v => (v.reel l).state) h
  have queue : (t.lane l).queue = (s.lane l).queue := congrArg (fun v => v.queue l) h
  have ahead : t.isAhead l f = s.isAhead l f := by
    have current : (t.lane l).tracker.current = (s.lane l).tracker.current := congrArg (fun v => v.current l) h
    simp only [State.isAhead, current]
  have taken : t.classifyTaken l f = s.classifyTaken l f := by
    simp only [State.classifyTaken, State.classifyFound, queue, find_congr h]
  simp only [State.classify, state, ahead, taken, find_congr h]

/-- Two states that a re-check reads alike re-check alike. -/
theorem recheckedUnit_congr (h : t.lookupView = s.lookupView) : recheckedUnit t = recheckedUnit s := by
  have outcome : recheckOutcome t = recheckOutcome s := funext fun e => by
    have state : (t.lane e.lane).reel.state = (s.lane e.lane).reel.state :=
      congrArg (fun v => (v.reel e.lane).state) h
    have layout : t.lookup.layout = s.lookup.layout := congrArg LookupView.layout h
    simp only [recheckOutcome, state, layout, find_congr h, classify_congr h]
  funext concerned x
  simp only [recheckedUnit, outcome]

@[simp] theorem raise_lookupView (l : Lane) (k : LaneKind) (o : Option Slot) :
    (s.raise l k o).lookupView = s.lookupView := by
  have lane : ∀ m, ((s.raise l k o).lane m).reel = (s.lane m).reel ∧
      ((s.raise l k o).lane m).queue = (s.lane m).queue ∧
      ((s.raise l k o).lane m).tracker.current = (s.lane m).tracker.current := by
    intro m
    by_cases h : m = l
    · subst h; rw [raise_lane]; exact ⟨rfl, rfl, rfl⟩
    · rw [raise_lane_other _ _ _ _ _ h]; exact ⟨rfl, rfl, rfl⟩
  simp only [State.lookupView, (lane _).1, (lane _).2.1, (lane _).2.2, raise_segments, raise_lookup]

@[simp] theorem raisePart_lookupView (k : PartKind) (o : Option Slot) :
    (s.raisePart k o).lookupView = s.lookupView := rfl

/-! ### The answer from a segment that has settled -/

theorem find_eq_found_iff {l : Lane} {f : Nat} {i : Slot} {r : Segment} :
    s.find l f = .found i r ↔ s.findCovering f (s.chain l) = some (i, r) := by
  simp only [State.find]
  split
  · rename_i hc; simp [hc]
  · rename_i hc
    rw [hc]
    repeat' split
    all_goals simp

/-- A record written with its extent kept is found where the old one was (R23). -/
theorem find_putSeg {l : Lane} {f : Nat} {i : Slot} {r q : Segment} (h : s.find l f = .found i r)
    (covers : q.covers f = r.covers f) : (s.putSeg i (some q)).find l f = .found i q := by
  have hr := find_found h
  rw [find_eq_found_iff] at h ⊢
  rw [putSeg_chain]
  revert h
  induction s.chain l with
  | nil => nofun
  | cons j rest ih =>
    intro h
    by_cases e : j = i
    · subst e
      simp only [State.findCovering, hr, putSeg_seg, covers] at h ⊢
      split at h
      · rw [if_pos ‹_›]
      · rw [if_neg ‹_›]; exact ih h
    · simp only [State.findCovering, putSeg_seg_other _ _ _ _ e] at h ⊢
      split at h
      · split at h
        · cases h; exact absurd rfl e
        · rw [if_neg ‹_›]; exact ih h
      · exact ih h

/-- Every test of R136 before the last lets a lookup pass: its frame is taken, and no candidate is queued at or before it. -/
def State.PassesTests (s : State) (l : Lane) (f : Nat) : Prop :=
  ((s.lane l).reel.state = .ended ∨ (((s.lane l).reel.state = .scanning ∨ (s.lane l).reel.state = .paused) ∧
    ∃ c, (s.lane l).tracker.current = some c ∧ f ≤ c)) ∧
  ∀ h rest, (s.lane l).queue = h :: rest → f < h.frame

/-- A lookup that passes them is answered from the SETTLED segment that holds its frame. -/
theorem classify_of_passes {l : Lane} {f : Nat} {i : Slot} {q : Segment} (h : s.PassesTests l f)
    (found : s.find l f = .found i q) (settled : q.phase = .settled) : s.classify l f = .source i q := by
  obtain ⟨state, queue⟩ := h
  have taken : s.classifyTaken l f = .source i q := by
    have last : s.classifyFound l f = .source i q := by simp [State.classifyFound, found, settled]
    simp only [State.classifyTaken]
    split
    · rename_i h rest hq
      rw [if_neg (Nat.not_le.mpr (queue h rest hq)), last]
    · exact last
  rcases state with ended | ⟨running, c, current, behind⟩
  · simp only [State.classify, ended, found, taken]
  · have here : s.isAhead l f = false := by simp [State.isAhead, current, behind]
    rcases running with e | e <;> simp [State.classify, e, here, taken]

/-- An entry whose frame a SETTLED segment holds is answered SETTLED from it, unless it meets another reason (R139, R145). -/
theorem recheckOutcome_settled {e : Deferral} {i : Slot} {q : Segment}
    (h : (s.lane e.lane).reel.state = .closing ∨ s.PassesTests e.lane e.frame)
    (found : s.find e.lane e.frame = .found i q) (settled : q.phase = .settled) :
    recheckOutcome s e = .inr
      { tag := e.tag, status := .settled, lane := e.lane, frame := e.frame
        slots := s.lookup.layout.map (FieldCode.value e.frame i q) } := by
  simp only [recheckOutcome]
  split
  · simp only [found, settled, if_true]
  · rename_i running
    simp only [classify_of_passes (h.resolve_left running) found settled]

end

end Sys2Proof.Machine
end

section
/-! PROOFS. The retirement of one slot (R155-R158): what it leaves where the slot is held, and where it is freed. -/

namespace Sys2Proof.Machine

section
variable {s : State} {i : Slot} {r : Segment} {l : Lane}

/-! ### What a retirement leaves unchanged -/

/-- A retirement changes the records of the slots named alone. -/
theorem retire_seg_other (s : State) {named : Slot → Bool} {j : Slot} (h : named j = false) :
    (s.retire named).seg j = s.seg j :=
  KeptByRetirement.retire_kept (P := fun t => t.seg j = s.seg j)
    { freeSlot := fun {t i r} ht picked hr _ =>
        ((freeSlot_of_seg hr).2.1 j fun e => by rw [← e, h] at picked; cases picked).trans ht
      endClosing := fun l ht => (endClosing_seg _ l j).trans ht } rfl

theorem freeSlot_notices (s : State) (i : Slot) (l : Lane) : ((s.freeSlot i).lane l).notices = (s.lane l).notices := by
  cases hr : s.seg i with
  | none => rw [freeSlot_of_free hr]
  | some r =>
    obtain ⟨-, -, -, lane, others, -, -⟩ := freeSlot_of_seg hr
    by_cases e : l = r.lane
    · subst e; rw [lane]
    · rw [others l e]

/-- The end of a closing leaves the other lanes as they were. -/
theorem endClosing_lane_other (s : State) {l m : Lane} (h : m ≠ l) : (s.endClosing l).lane m = s.lane m := by
  simp only [State.endClosing]
  split
  · rw [raise_lane_other _ _ _ _ _ h, onLane_lane_other _ _ _ _ h]
  · rfl

@[simp] theorem endClosing_engine (s : State) (l : Lane) : (s.endClosing l).engine = s.engine := by
  simp only [State.endClosing]; split <;> rfl

@[simp] theorem endClosing_computeQueue (s : State) (l : Lane) : (s.endClosing l).computeQueue = s.computeQueue := by
  simp only [State.endClosing]; split <;> rfl

/-- A closing with a segment left goes on. -/
theorem endClosing_of_stays (h : s.chain l ≠ []) : s.endClosing l = s := if_neg fun ends => h ends.2

/-- A closing with none left ends: the reel is EMPTY, its tracker's frame, position and deadline absent, REEL_RETIRED raised (R158). -/
theorem endClosing_lane_of_ends (state : (s.lane l).reel.state = .closing) (empty : s.chain l = []) :
    (s.endClosing l).lane l =
      { s.lane l with
        reel := { state := .empty, load := none, chain := [] }
        tracker := { (s.lane l).tracker with current := none, lastPosition := none, deadline := none }
        notices := update (s.lane l).notices LaneKind.reelRetired.index fun _ => { raised := true, latest := none } } := by
  have none : (s.lane l).reel.chain = [] := empty
  rw [State.endClosing, if_pos ⟨state, empty⟩]
  simp only [raise_lane, onLane_lane, none]

/-- The end of a closing raises REEL_RETIRED and no other notice. -/
theorem endClosing_notices (s : State) (l m : Lane) {k : Fin 11} (h : k ≠ 10) :
    ((s.endClosing l).lane m).notices[k.val] = (s.lane m).notices[k.val] := by
  by_cases e : m = l
  · subst e
    by_cases ends : (s.lane m).reel.state = .closing ∧ s.chain m = []
    · simp only [endClosing_lane_of_ends ends.1 ends.2]
      exact update_other _ LaneKind.reelRetired.index k _ h
    · rw [State.endClosing, if_neg ends]
  · rw [endClosing_lane_other s e]

/-- A retirement raises REEL_RETIRED and no other notice. -/
theorem retire_notices (s : State) (named : Slot → Bool) (m : Lane) {k : Fin 11} (h : k ≠ 10) :
    ((s.retire named).lane m).notices[k.val] = (s.lane m).notices[k.val] :=
  KeptByRetirement.retire_kept (P := fun t => (t.lane m).notices[k.val] = (s.lane m).notices[k.val])
    { freeSlot := fun {t i _} ht _ _ _ => by rw [← ht, freeSlot_notices]
      endClosing := fun l ht => (endClosing_notices _ l m h).trans ht } rfl

/-! ### The retirement of one slot -/

/-- A second re-check of a slot in one event does nothing. -/
theorem retireSlot_retireSlot (s : State) (i : Slot) : (s.retireSlot i).retireSlot i = s.retireSlot i := by
  rcases retireSlot_cases s i with e | ⟨r, hr, -, -, e⟩
  · rw [e, e]
  · have gone : (s.retireSlot i).seg i = none := e ▸ (freeSlot_of_seg hr).1
    simp only [State.retireSlot.eq_1 (s.retireSlot i), gone]

/-- The re-check of one slot along a chain is its re-check where the chain holds it, and nothing elsewhere. -/
theorem retireChain_one (s : State) (i : Slot) (l : Lane) :
    s.retireChain (fun j => decide (j = i)) l = if i ∈ s.chain l then s.retireSlot i else s := by
  simp only [State.retireChain]
  generalize s.chain l = chain
  induction chain generalizing s with
  | nil => simp
  | cons j rest ih =>
    rw [List.foldl_cons, ih]
    by_cases e : j = i
    · subst e; simp [retireSlot_retireSlot]
    · simp [e, Ne.symm e]

/-- On a lane whose chain does not hold the slot, its re-check does nothing. -/
theorem retireLane_of_not_mem (h : i ∉ s.chain l) : s.retireLane (fun j => decide (j = i)) l = s := by
  simp [State.retireLane, retireChain_one, h]

/-- With nothing to free no lane is changed. -/
theorem retire_of_held (h : s.retireSlot i = s) : s.retire (fun j => decide (j = i)) = s := by
  have lane : ∀ l, s.retireLane (fun j => decide (j = i)) l = s := fun l => by
    simp [State.retireLane, retireChain_one, h]
  simp only [State.retire, lane]

/-- A retirement acts on one lane where it finds nothing to do on the others. -/
theorem retire_of_lane {named : Slot → Bool} {t : State} (l : Lane) (others : ∀ m, m ≠ l → s.retireLane named m = s)
    (here : s.retireLane named l = t) (after : ∀ m, t.retireLane named m = t) : s.retire named = t := by
  match l with
  | 0 => simp only [State.retire, here, after]
  | 1 => simp only [State.retire, others 0 (by decide), here, after]
  | 2 => simp only [State.retire, others 0 (by decide), others 1 (by decide), here, after]
  | 3 => simp only [State.retire, others 0 (by decide), others 1 (by decide), others 2 (by decide), here]

/-- A slot with a record stands in its lane's chain and in no other (R1, R22). -/
theorem SlotLaws.mem_chain_iff (h : SlotLaws s) (hr : s.seg i = some r) : i ∈ s.chain l ↔ l = r.lane := by
  constructor
  · intro hi
    have lane := h.chained l i hi
    rw [hr] at lane
    exact (Option.some.inj lane).symm
  · rintro rfl
    exact (slotLaws_iff.mp h).mem_chain (by simp [State.slotView, hr])

/-- A RETIRING slot that nothing holds is freed, and the closing of its lane ends where its chain is left empty (R156-R158). -/
theorem retire_of_unheld (h : SlotLaws s) (hr : s.seg i = some r) (retiring : r.life = .retiring)
    (unheld : s.held i r = false) :
    s.retire (fun j => decide (j = i)) = (s.freeSlot i).endClosing r.lane := by
  have inChain : i ∈ s.chain r.lane := (h.mem_chain_iff hr).mpr rfl
  have freed : s.retireSlot i = s.freeSlot i := by simp [State.retireSlot, hr, retiring, unheld]
  obtain ⟨gone, -, -, lane, -, -, -⟩ := freeSlot_of_seg hr
  have shorter : ((s.freeSlot i).chain r.lane).length < (s.chain r.lane).length := by
    have chain : (s.freeSlot i).chain r.lane = (s.chain r.lane).erase i := by simp only [State.chain, lane]
    rw [chain, List.length_erase_of_mem inChain]
    have := List.length_pos_of_mem inChain
    omega
  refine retire_of_lane r.lane (fun m hm => retireLane_of_not_mem fun hi => hm ((h.mem_chain_iff hr).mp hi)) ?_
    fun m => retireLane_of_not_mem fun hi => ?_
  · simp only [State.retireLane, retireChain_one, if_pos inChain, freed, if_pos shorter]
  · have chained := ((h.freeSlot i).endClosing r.lane).chained m i hi
    rw [endClosing_seg, gone] at chained
    cases chained

/-! ### The freeing and the end of a closing -/

/-- What the freeing of a slot and the end of its lane's closing leave (R4, R158). -/
theorem slotFreed_of_freeSlot (h : SlotLaws s) (hr : s.seg i = some r) :
    SlotFreed r.lane i s ((s.freeSlot i).endClosing r.lane) := by
  obtain ⟨gone, -, free, lane, -, -, -⟩ := freeSlot_of_seg hr
  have inChain : i ∈ s.chain r.lane := (h.mem_chain_iff hr).mpr rfl
  have chain : (s.freeSlot i).chain r.lane = (s.chain r.lane).erase i := by simp only [State.chain, lane]
  have state : ((s.freeSlot i).lane r.lane).reel.state = (s.lane r.lane).reel.state := by rw [lane]
  have empty : (s.freeSlot i).chain r.lane = [] ↔ s.chain r.lane = [i] := by
    rw [chain, List.erase_eq_nil_iff]
    exact ⟨fun e => e.resolve_left (List.ne_nil_of_mem inChain), Or.inr⟩
  refine ⟨(endClosing_seg _ _ _).trans gone, ?_, ?_, fun closing only => ?_, fun more => ?_⟩
  · rw [← free, State.endClosing]
    split <;> rfl
  · by_cases ends : ((s.freeSlot i).lane r.lane).reel.state = .closing ∧ (s.freeSlot i).chain r.lane = []
    · simp only [State.chain, endClosing_lane_of_ends ends.1 ends.2]
      exact ends.2.symm.trans chain
    · rw [State.endClosing, if_neg ends, chain]
  · rw [endClosing_lane_of_ends (state.trans closing) (empty.mpr only)]
    exact ⟨rfl, rfl, rfl, rfl, update_same _ LaneKind.reelRetired.index _⟩
  · rw [endClosing_of_stays fun e => more (empty.mp e), lane]
    exact ⟨rfl, rfl⟩

/-- A freeing reads of the state before it the Free List and the lane's reel and tracker. -/
theorem SlotFreed.of_lane {t u : State} (h : SlotFreed l i u t) (free : u.freeList = s.freeList)
    (reel : (u.lane l).reel = (s.lane l).reel) (tracker : (u.lane l).tracker = (s.lane l).tracker) :
    SlotFreed l i s t := by
  have chain : u.chain l = s.chain l := congrArg Reel.chain reel
  obtain ⟨record, list, left, ended, kept⟩ := h
  rw [free] at list
  rw [chain] at left
  rw [chain, reel] at ended kept
  rw [tracker] at kept
  exact ⟨record, list, left, ended, kept⟩

end

end Sys2Proof.Machine
end

section
/-! PROOFS. A completion (O54): the grade, the engine's next computation, the re-check and the freeing. -/

namespace Sys2Proof.Machine

/-- An accumulator is degenerate when the spread of a channel is below 64 (R106). -/
theorem degenerate_iff (a : Accum) :
    a.degenerate = true ↔ a.spreads.r < 64 ∨ a.spreads.g < 64 ∨ a.spreads.b < 64 := by
  simp only [Accum.degenerate, Bool.or_eq_true, decide_eq_true_eq, or_assoc]

/-! ### The state between the completion and its re-check (R104-R107) -/

/-- The part with the completed segment written and its notices raised. -/
def State.noticedAt (s : State) (i : Slot) (r : Segment) : State :=
  (s.putSeg i (some (r.completed (s.profile r.profile)))).completionNotices i r

/-- With that the engine at its next computation, where one waits (R104). -/
def State.begunAt (s : State) (i : Slot) (r : Segment) : State :=
  { s.noticedAt i r with engine := s.computeQueue.head?, computeQueue := s.computeQueue.tail }

/-- With that the entries that await the segment re-checked (R139, R140). -/
def State.recheckedAt (s : State) (i : Slot) (r : Segment) : State :=
  (s.begunAt i r).recheck fun e => decide (e.reason = .segment i)

section
variable {s : State} {i : Slot} {r : Segment}

theorem completed_life (r : Segment) (p : Profile) : (r.completed p).life = r.life := by
  simp only [Segment.completed]
  split <;> rfl

/-- A completion changes no extent, so it holds the frames it held. -/
theorem completed_covers (r : Segment) (p : Profile) (f : Nat) : (r.completed p).covers f = r.covers f := by
  simp only [Segment.completed]
  split <;> rfl

/-! ### The notices of a completion (R106, R107) -/

theorem completionNotices_lane_other (s : State) (i : Slot) {r : Segment} {l : Lane} (h : l ≠ r.lane) :
    (s.completionNotices i r).lane l = s.lane l := by
  simp only [State.completionNotices]
  split <;> split <;> simp only [raisePart_lane, raise_lane_other _ _ _ _ _ h]

theorem completionNotices_lane (s : State) (i : Slot) (r : Segment) (l : Lane) :
    (s.completionNotices i r).lane l =
      { s.lane l with notices := ((s.completionNotices i r).lane l).notices } := by
  by_cases h : l = r.lane
  · subst h
    simp only [State.completionNotices]
    split <;> split <;> simp only [raisePart_lane, raise_lane]
  · rw [completionNotices_lane_other s i h]

/-- A notice raised sets its own flag and no other (R162). -/
theorem raise_notices (s : State) (l : Lane) (k : LaneKind) (o : Option Slot) :
    ((s.raise l k o).lane l).notices[k.index.val] = { raised := true, latest := o } := by
  simp only [raise_lane]
  exact update_same _ k.index _

theorem raise_notices_other (s : State) (l : Lane) (k : LaneKind) (o : Option Slot) {j : Fin 11} (h : j ≠ k.index) :
    ((s.raise l k o).lane l).notices[j.val] = (s.lane l).notices[j.val] := by
  simp only [raise_lane]
  exact update_other _ k.index j _ h

theorem completionNotices_settled (s : State) (i : Slot) (r : Segment) :
    ((s.completionNotices i r).lane r.lane).notices[9] = { raised := true, latest := some i } := by
  have settled := raise_notices s r.lane .segmentSettled (some i)
  have kept := (raise_notices_other (s.raise r.lane .segmentSettled (some i)) r.lane .gradeDefaulted (some i)
    (j := 9) (by decide)).trans settled
  simp only [State.completionNotices]
  by_cases thin : r.acc.degenerate = true
  · simp only [if_pos thin]
    split <;> exact kept
  · simp only [if_neg thin]
    split <;> exact settled

theorem completionNotices_defaulted (s : State) (i : Slot) {r : Segment} (h : r.acc.degenerate = true) :
    ((s.completionNotices i r).lane r.lane).notices[8] = { raised := true, latest := some i } := by
  simp only [State.completionNotices, if_pos h]
  split <;> exact raise_notices _ r.lane .gradeDefaulted (some i)

theorem completionNotices_granted (s : State) (i : Slot) {r : Segment} (h : r.takePending = true) :
    (s.completionNotices i r).partNotices[1] = { raised := true, latest := some i } := by
  simp only [State.completionNotices, h, if_true]
  exact raisePart_partNotices _ .takeGranted (some i)

theorem completionNotices_ungranted (s : State) (i : Slot) {r : Segment} (h : r.takePending = false) :
    (s.completionNotices i r).partNotices = s.partNotices := by
  simp only [State.completionNotices, h, Bool.false_eq_true, if_false]
  split <;> rfl

theorem completionNotices_keeps (s : State) (i : Slot) (r : Segment) :
    (s.completionNotices i r).segments = s.segments ∧ (s.completionNotices i r).freeList = s.freeList ∧
    (s.completionNotices i r).profiles = s.profiles ∧ (s.completionNotices i r).lookup = s.lookup ∧
    (s.completionNotices i r).computeQueue = s.computeQueue ∧
    (s.completionNotices i r).lookupView = s.lookupView := by
  simp only [State.completionNotices]
  split <;> split <;> simp

/-! ### What stands before the retirement -/

/-- An IDLE engine begins the head of the queue, where there is one (R104). -/
theorem engineBegin_of_idle {s : State} (h : s.engine = none) :
    s.engineBegin = { s with engine := s.computeQueue.head?, computeQueue := s.computeQueue.tail } := by
  rcases engineBegin_cases s with ⟨i, rest, -, hq, e⟩ | ⟨busy, e⟩
  · rw [e, hq]; rfl
  · have empty := busy.resolve_left fun ne => ne h
    rw [e]
    cases s
    simp only at h empty
    simp [h, empty]

/-- A completion is the completed segment, the re-check and the retirement of the one slot. -/
theorem complete_eq (here : s.engine = some i) (hr : s.seg i = some r) :
    s.complete = (s.recheckedAt i r).retire fun j => decide (j = i) := by
  obtain ⟨-, -, -, -, queue, -⟩ :=
    completionNotices_keeps (s.putSeg i (some (r.completed (s.profile r.profile)))) i r
  have begun : ({ s.noticedAt i r with engine := none } : State).engineBegin = s.begunAt i r := by
    rw [engineBegin_of_idle rfl, State.begunAt]
    simp only [State.noticedAt, queue, putSeg_computeQueue]
  rw [State.recheckedAt, ← begun]
  simp only [State.complete, here, hr]
  rfl

/-- Everything that the completed segment, its notices, the engine's next computation and the re-check leave. -/
structure CompletionLeaves (i : Slot) (r : Segment) (s t : State) : Prop where
  record : t.seg i = some (r.completed (s.profile r.profile))
  others : ∀ j, j ≠ i → t.seg j = s.seg j
  engine : t.engine = s.computeQueue.head?
  computeQueue : t.computeQueue = s.computeQueue.tail
  freeList : t.freeList = s.freeList
  profiles : t.profiles = s.profiles
  lanes : ∀ l, t.lane l = { s.lane l with notices := (t.lane l).notices }
  otherLanes : ∀ l, l ≠ r.lane → t.lane l = s.lane l
  settled : (t.lane r.lane).notices[9] = { raised := true, latest := some i }
  defaulted : r.acc.degenerate = true → (t.lane r.lane).notices[8] = { raised := true, latest := some i }
  granted : r.takePending = true → t.partNotices[1] = { raised := true, latest := some i }
  ungranted : r.takePending = false → t.partNotices = s.partNotices
  reservations : t.reservations = s.reservations
  lookup : t.lookup = recheckedUnit (s.putSeg i (some (r.completed (s.profile r.profile))))
    (fun e => decide (e.reason = .segment i)) s.lookup

/-- The re-check reads the part as the completed segment leaves it: the notices and the engine are not among what it reads. -/
theorem recheckedAt_eq (s : State) (i : Slot) (r : Segment) : s.recheckedAt i r =
    { s.begunAt i r with
      lookup := recheckedUnit (s.putSeg i (some (r.completed (s.profile r.profile))))
        (fun e => decide (e.reason = .segment i)) s.lookup } := by
  obtain ⟨-, -, -, lookup, -, view⟩ :=
    completionNotices_keeps (s.putSeg i (some (r.completed (s.profile r.profile)))) i r
  have waiting : (s.begunAt i r).lookup = s.lookup := lookup
  have unseen : (s.begunAt i r).lookupView =
      (s.putSeg i (some (r.completed (s.profile r.profile)))).lookupView := view
  rw [State.recheckedAt, recheck_eq, recheckedUnit_congr unseen, waiting]

theorem recheckedAt_leaves (s : State) (i : Slot) (r : Segment) : CompletionLeaves i r s (s.recheckedAt i r) := by
  obtain ⟨segments, free, profiles, lookup, -, -⟩ :=
    completionNotices_keeps (s.putSeg i (some (r.completed (s.profile r.profile)))) i r
  have seg : ∀ j, (s.noticedAt i r).seg j = (s.putSeg i (some (r.completed (s.profile r.profile)))).seg j :=
    fun j => congrArg (fun v => v[j.val]) segments
  have waiting : (s.begunAt i r).lookup = s.lookup := lookup
  constructor
  case reservations => rw [State.recheckedAt, recheck_reservations, State.reservations, waiting, State.reservations]
  all_goals rw [recheckedAt_eq]
  case engine => rfl
  case computeQueue => rfl
  case record => exact (seg i).trans (putSeg_seg _ _ _)
  case others => exact fun j hj => (seg j).trans (putSeg_seg_other _ _ _ _ hj)
  case freeList => exact free
  case profiles => exact profiles
  case lanes => exact fun l => completionNotices_lane _ i r l
  case otherLanes => exact fun l hl => completionNotices_lane_other _ i hl
  case settled => exact completionNotices_settled _ i r
  case defaulted => exact fun h => completionNotices_defaulted _ i h
  case granted => exact fun h => completionNotices_granted _ i h
  case ungranted => exact fun h => completionNotices_ungranted _ i h

/-- The completion and its re-check keep the laws of the Free List and the chains. -/
theorem recheckedAt_slotLaws (hr : s.seg i = some r) (slots : SlotLaws s) : SlotLaws (s.recheckedAt i r) := by
  have leaves := recheckedAt_leaves s i r
  have chain : (s.recheckedAt i r).chain = s.chain := funext fun l => by rw [State.chain, leaves.lanes l]; rfl
  have state : (fun l => ((s.recheckedAt i r).lane l).reel.state) = fun l => (s.lane l).reel.state :=
    funext fun l => by rw [leaves.lanes l]
  have lane : (fun j => ((s.recheckedAt i r).seg j).map Segment.lane) = fun j => (s.seg j).map Segment.lane :=
    funext fun j => by
      by_cases e : j = i
      · rw [e, leaves.record, hr, Option.map_some, Option.map_some, completed_lane]
      · rw [leaves.others j e]
  exact slots.of_slotView (by simp only [State.slotView, leaves.freeList, chain, state, lane])

end

section
variable {s : State} {i : Slot} {r : Segment} (here : s.engine = some i) (hr : s.seg i = some r)
include here hr

/-! ### What every completion leaves -/

theorem complete_seg_other {j : Slot} (h : j ≠ i) : s.complete.seg j = s.seg j := by
  rw [complete_eq here hr, retire_seg_other _ (decide_eq_false h), (recheckedAt_leaves s i r).others j h]

theorem complete_notices_settled : (s.complete.lane r.lane).notices[9] = { raised := true, latest := some i } := by
  rw [complete_eq here hr]
  exact (retire_notices _ _ r.lane (k := 9) (by decide)).trans (recheckedAt_leaves s i r).settled

theorem complete_notices_defaulted (h : r.acc.degenerate = true) :
    (s.complete.lane r.lane).notices[8] = { raised := true, latest := some i } := by
  rw [complete_eq here hr]
  exact (retire_notices _ _ r.lane (k := 8) (by decide)).trans ((recheckedAt_leaves s i r).defaulted h)

theorem complete_settings : s.complete.settings = (s.recheckedAt i r).settings := by
  rw [complete_eq here hr, retire_settings]

theorem complete_partNotices : s.complete.partNotices = (s.recheckedAt i r).partNotices :=
  congrArg Settings.partNotices (complete_settings here hr)

theorem complete_profiles : s.complete.profiles = s.profiles :=
  (congrArg Settings.profiles (complete_settings here hr)).trans (recheckedAt_leaves s i r).profiles

/-- The entries that await the segment are re-checked on the part with its new grade. -/
theorem complete_lookup : s.complete.lookup =
    recheckedUnit (s.putSeg i (some (r.completed (s.profile r.profile))))
      (fun e => decide (e.reason = .segment i)) s.lookup := by
  rw [complete_eq here hr, retire_lookup, (recheckedAt_leaves s i r).lookup]

theorem complete_reservations : s.complete.reservations = s.reservations := by
  rw [complete_eq here hr, State.reservations, retire_lookup]
  exact (recheckedAt_leaves s i r).reservations

/-! ### The entries that await the segment (R139, R145) -/

/-- An entry whose frame the segment holds is answered SETTLED from its new grade, unless it meets another reason. -/
theorem complete_answers {e : Deferral} (he : e ∈ s.lookup.deferred) (awaits : e.reason = .segment i)
    (found : s.find e.lane e.frame = .found i r)
    (passes : (s.lane e.lane).reel.state = .closing ∨ s.PassesTests e.lane e.frame) :
    e ∉ s.complete.lookup.deferred ∧
    { tag := e.tag, status := .settled, lane := e.lane, frame := e.frame
      slots := s.lookup.layout.map (FieldCode.value e.frame i (r.completed (s.profile r.profile))) } ∈
      s.complete.lookup.answers := by
  have outcome := recheckOutcome_settled (s := s.putSeg i (some (r.completed (s.profile r.profile)))) (e := e) passes
    (find_putSeg found (completed_covers r _ _)) (completed_phase r _)
  rw [complete_lookup here hr]
  refine ⟨fun stays => ?_, mem_recheckedUnit_answers he (decide_eq_true awaits) outcome⟩
  obtain ⟨d, -, left⟩ := mem_recheckedUnit_deferred.mp stays
  split at left
  · rename_i picked
    have same : e = d := by
      rw [recheckOutcome_waits left, awaits, ← of_decide_eq_true picked]
    rw [← same, outcome] at left
    cases left
  · rename_i passed
    cases left
    exact passed (decide_eq_true awaits)

/-- An entry that waits on keeps its remaining ticks: it is one there was, up to its reason. -/
theorem complete_waits {d : Deferral} (hd : d ∈ s.complete.lookup.deferred) :
    ∃ e ∈ s.lookup.deferred, d = { e with reason := d.reason } := by
  rw [complete_lookup here hr] at hd
  obtain ⟨e, he, left⟩ := mem_recheckedUnit_deferred.mp hd
  refine ⟨e, he, ?_⟩
  split at left
  · exact recheckOutcome_waits left
  · cases left; rfl

/-! ### The segment kept, and the segment freed (R114, R155-R158) -/

/-- The completed segment is held from freeing by the console or by an entry that awaits it, and by nothing else (R155). -/
theorem held_completed_iff : (s.recheckedAt i r).held i (r.completed (s.profile r.profile)) = true ↔
    (r.completed (s.profile r.profile)).owner = .console ∨ ∃ e ∈ s.complete.lookup.deferred, e.reason = .segment i := by
  have lookup : s.complete.lookup = (s.recheckedAt i r).lookup := by rw [complete_eq here hr, retire_lookup]
  simp [State.held, completed_phase, completed_takePending, Deferral.awaits, lookup]

/-- A LIVE segment is kept, and so is a RETIRING one that the console or an entry holds. -/
theorem complete_of_kept (h : r.life = .live ∨ (r.completed (s.profile r.profile)).owner = .console ∨
    ∃ e ∈ s.complete.lookup.deferred, e.reason = .segment i) : s.complete = s.recheckedAt i r := by
  have record := (recheckedAt_leaves s i r).record
  rw [complete_eq here hr]
  refine retire_of_held ?_
  simp only [State.retireSlot, record, completed_life]
  rcases h with live | kept
  · simp [live]
  · simp [(held_completed_iff here hr).mpr kept]

/-- A RETIRING segment that the console does not own and no entry awaits is freed (R114, R156). -/
theorem complete_of_freed (slots : SlotLaws s) (retiring : r.life = .retiring)
    (owner : (r.completed (s.profile r.profile)).owner = .auto)
    (unawaited : ∀ e ∈ s.complete.lookup.deferred, e.reason ≠ .segment i) :
    s.complete = ((s.recheckedAt i r).freeSlot i).endClosing r.lane := by
  have unheld : (s.recheckedAt i r).held i (r.completed (s.profile r.profile)) = false := by
    rw [Bool.eq_false_iff]
    intro held
    rcases (held_completed_iff here hr).mp held with console | ⟨e, he, awaits⟩
    · rw [owner] at console; cases console
    · exact unawaited e he awaits
  have freed := retire_of_unheld (recheckedAt_slotLaws hr slots) (recheckedAt_leaves s i r).record
    ((completed_life r _).trans retiring) unheld
  rw [completed_lane] at freed
  rw [complete_eq here hr, freed]

/-- What the freeing leaves beside the state before the completion. -/
theorem complete_slotFreed (slots : SlotLaws s) (retiring : r.life = .retiring)
    (owner : (r.completed (s.profile r.profile)).owner = .auto)
    (unawaited : ∀ e ∈ s.complete.lookup.deferred, e.reason ≠ .segment i) : SlotFreed r.lane i s s.complete := by
  have leaves := recheckedAt_leaves s i r
  have freed := slotFreed_of_freeSlot (recheckedAt_slotLaws hr slots) leaves.record
  rw [completed_lane, ← complete_of_freed here hr slots retiring owner unawaited] at freed
  have lane := leaves.lanes r.lane
  refine freed.of_lane leaves.freeList ?_ ?_ <;> rw [lane]

/-- A RETIRING segment is kept or freed, and the engine has begun the head of the queue either way. -/
theorem complete_retiring_rest (slots : SlotLaws s) (engine : EngineLaws s) (retiring : r.life = .retiring) :
    s.complete.engine = s.computeQueue.head? ∧ s.complete.computeQueue = s.computeQueue.tail ∧
    ∀ l, l ≠ r.lane → s.complete.lane l = s.lane l := by
  have leaves := recheckedAt_leaves s i r
  by_cases kept : (r.completed (s.profile r.profile)).owner = .console ∨
      ∃ e ∈ s.complete.lookup.deferred, e.reason = .segment i
  · rw [complete_of_kept here hr (Or.inr kept)]
    exact ⟨leaves.engine, leaves.computeQueue, leaves.otherLanes⟩
  · obtain ⟨owner, unawaited⟩ := not_or.mp kept
    have auto : (r.completed (s.profile r.profile)).owner = .auto := by
      cases ho : (r.completed (s.profile r.profile)).owner with
      | auto => rfl
      | console => exact absurd ho owner
    have out : i ∉ s.computeQueue := engine.apart i here
    rw [complete_of_freed here hr slots retiring auto fun e he awaits => unawaited ⟨e, he, awaits⟩]
    obtain ⟨-, -, -, -, lanes, queue, begun⟩ := freeSlot_of_seg leaves.record
    rw [completed_lane] at lanes
    refine ⟨?_, ?_, fun l hl => ?_⟩
    · rw [endClosing_engine, begun, leaves.engine, if_neg fun head => out (List.mem_of_head? head)]
    · rw [endClosing_computeQueue, queue, leaves.computeQueue,
        List.erase_of_not_mem fun waits => out (List.mem_of_mem_tail waits)]
    · rw [endClosing_lane_other _ hl, lanes l hl, leaves.otherLanes l hl]

end

/-- Settles O54: the completion is a write, a re-check of the entries that await the segment and the retirement of its one slot, each by its own rules. -/
theorem gradeCompletion : Obligations.GradeCompletion := by
  refine ⟨recheck_eq, ?_⟩
  intro s i r released here hr p k spread gain lift thin graded
  have degenerate : r.acc.degenerate = true ↔ thin := degenerate_iff r.acc
  have completed : r.completed (s.profile r.profile) = graded := by
    by_cases h : thin
    · simp only [Segment.completed, if_pos (degenerate.mpr h), graded, if_pos h]
      rfl
    · simp only [Segment.completed, if_neg fun d => h (degenerate.mp d), graded, if_neg h]
      rfl
  have leaves := recheckedAt_leaves s i r
  have record := completed ▸ leaves.record
  have kept := complete_of_kept here hr
  have freed := complete_slotFreed here hr
  rw [completed] at kept freed
  refine ⟨s.complete, unlessReset_released released State.complete, fun j hj => complete_seg_other here hr hj,
    complete_notices_settled here hr, fun h => complete_notices_defaulted here hr (degenerate.mpr h), fun h => ?_,
    fun h => (complete_partNotices here hr).trans (leaves.ungranted h), complete_reservations here hr,
    complete_profiles here hr, completed ▸ complete_lookup here hr,
    fun e he awaits found passes => completed ▸ complete_answers here hr he awaits found passes,
    fun d hd => complete_waits here hr hd, fun live => ?_, fun retiring slots engine => ?_⟩
  · simp only [complete_partNotices here hr]
    exact leaves.granted h
  · rw [kept (Or.inl live)]
    exact ⟨record, leaves.engine, leaves.computeQueue, leaves.lanes, leaves.freeList⟩
  · obtain ⟨begun, waiting, lanes⟩ := complete_retiring_rest here hr slots engine retiring
    refine ⟨begun, waiting, lanes, fun held => ?_, freed slots retiring⟩
    rw [kept (Or.inr held)]
    exact ⟨record, leaves.freeList, leaves.lanes⟩

end Sys2Proof.Machine
end

section
/-! PROOFS. What an operation that keeps the settings of the part keeps among them. -/

namespace Sys2Proof.Machine

section
variable {s t : State} (h : t.settings = s.settings)
include h

theorem lease_of_settings : t.lease = s.lease := congrArg Settings.lease h

theorem partNotices_of_settings : t.partNotices = s.partNotices := congrArg Settings.partNotices h

theorem profiles_of_settings : t.profiles = s.profiles := congrArg Settings.profiles h

theorem control_of_settings : t.control = s.control := congrArg Settings.control h

theorem grading_of_settings : t.grading = s.grading := congrArg Settings.grading h

end

end Sys2Proof.Machine
end

section
/-! PROOFS. The console's lease: its tick, its expiry and RENEW (O36). -/

namespace Sys2Proof.Machine

section
variable {s : State}

theorem exec_leaseTick (released : s.resetHeld = false) : exec .leaseTick s = .next s.leaseTick :=
  unlessReset_released released State.leaseTick

theorem exec_leaseExpiry (s : State) : exec .leaseExpiry s = execLeaseExpiry s := rfl

/-- With the count at 1 the tick and the row LEASE_EXPIRY are the expiry. -/
theorem exec_lease_of_last (released : s.resetHeld = false) (last : s.lease = some 1) :
    exec .leaseTick s = .next s.leaseExpiry ∧ exec .leaseExpiry s = .next s.leaseExpiry := by
  constructor
  · rw [exec_leaseTick released, State.leaseTick, last]; rfl
  · rw [exec_leaseExpiry, execLeaseExpiry, unlessReset_released released]
    simp only [last]
    rfl

/-- With the count above 1 the tick subtracts 1, and LEASE_EXPIRY names no tick. -/
theorem exec_lease_of_running {n : Nat} (released : s.resetHeld = false) (running : s.lease = some n) (more : 2 ≤ n) :
    exec .leaseTick s = .next { s with lease := some (n - 1) } ∧ exec .leaseExpiry s = .next s := by
  have above : ¬n ≤ 1 := by omega
  constructor
  · rw [exec_leaseTick released]
    simp only [State.leaseTick, running, if_neg above]
  · rw [exec_leaseExpiry, execLeaseExpiry, unlessReset_released released]
    simp only [running, if_neg above]

/-- A STOPPED timer stays. -/
theorem exec_lease_of_stopped (released : s.resetHeld = false) (stopped : s.lease = none) :
    exec .leaseTick s = .next s ∧ exec .leaseExpiry s = .next s := by
  constructor
  · rw [exec_leaseTick released]
    simp only [State.leaseTick, stopped]
  · rw [exec_leaseExpiry, execLeaseExpiry, unlessReset_released released]
    simp only [stopped]

theorem retire_lease (s : State) (named : Slot → Bool) : (s.retire named).lease = s.lease :=
  lease_of_settings (retire_settings s named)

/-- The dropping of holds changes no setting but the part-wide flags, so it leaves the timer alone. -/
theorem dropHolds_lease (s : State) (named : Slot → Bool) (notice : PartKind) (slot : Option Slot) :
    (s.dropHolds named notice slot).lease = s.lease := by
  simp only [State.dropHolds]
  split
  · rw [retire_lease, raisePart_lease]
  · rfl

theorem leaseExpiry_lease (s : State) : s.leaseExpiry.lease = none := dropHolds_lease _ _ _ _

theorem exec_renew (released : s.resetHeld = false) :
    exec .renew s = .next ((if s.grading.dispatched = some .renew then s else s.reloadLease).ok .grading) :=
  unlessReset_released released fun s => (if s.grading.dispatched = some .renew then s else s.reloadLease).ok .grading

/-- Settles O36: the timer by its three counts, and RENEW by whether LINK_TRANSACTION dispatched it. -/
theorem leaseTickAndRenew : Obligations.LeaseTickAndRenew := by
  intro s released
  refine ⟨fun n running more => exec_lease_of_running released running more, fun last => ?_,
    exec_lease_of_stopped released, fun dispatched => ?_, fun direct => ?_⟩
  · obtain ⟨tick, expiry⟩ := exec_lease_of_last released last
    exact ⟨tick.trans expiry.symm, _, tick, leaseExpiry_lease s⟩
  · rw [exec_renew released, if_pos dispatched]
  · rw [exec_renew released, if_neg direct]
    rfl

end

end Sys2Proof.Machine
end

section
/-! PROOFS. TAKE by the phase of its segment (O28). -/

namespace Sys2Proof.Machine

section
variable {s : State}

theorem exec_take_of_seg {i : Slot} {r : Segment} (released : s.resetHeld = false) (hr : s.seg i = some r) :
    exec (.take i.val) s = .next (
      if r.life = .retiring then s.refuse .grading .closing
      else if r.owner = .console then s.refuse .grading .already
      else if r.takePending = true then s.refuse .grading .already
      else s.takeSegment i r) := by
  rw [exec_take, execTake, unlessReset_released released, withSegment_of_seg _ _ hr]

/-- At once, where no computation and no regrade runs (R118). -/
theorem takeSegment_of_quiet {i : Slot} {r : Segment} (phase : r.phase = .measuring ∨ r.phase = .settled) :
    s.takeSegment i r = (s.putSeg i (some r.taken)).ok .grading := by
  rcases phase with phase | phase <;> simp only [State.takeSegment, phase]

theorem takeSegment_of_regrading {i : Slot} {r : Segment} (phase : r.phase = .regrading) :
    s.takeSegment i r = ((s.putSeg i (some r.takenRegrading)).raise r.lane .segmentSettled (some i)).ok .grading := by
  simp only [State.takeSegment, phase]

/-- Pending while the computation runs in the engine, and at once out of the Compute Queue (R118). -/
theorem takeSegment_of_computing {i : Slot} {r : Segment} (phase : r.phase = .computing) :
    s.takeSegment i r =
      if s.engine = some i then
        (s.putSeg i (some { r with takePending := true })).reply .grading .acceptedPending .none []
      else (s.takeQueued i r).ok .grading := by
  rw [State.takeSegment, phase]

/-- A TAKE that passes the three tests of R117. -/
theorem exec_take_of_passes {i : Slot} {r : Segment} (released : s.resetHeld = false) (hr : s.seg i = some r)
    (live : r.life = .live) (auto : r.owner = .auto) (untaken : r.takePending = false) :
    exec (.take i.val) s = .next (s.takeSegment i r) := by
  rw [exec_take_of_seg released hr, if_neg (by simp [live]), if_neg (by simp [auto]), if_neg (by simp [untaken])]

/-- Settles O28: the three tests of R117, and then the phases of R118. -/
theorem takeByPhase : Obligations.TakeByPhase := by
  intro s i r released hr
  refine ⟨fun retiring => ?_, fun live taken => ?_, fun live auto untaken => ?_⟩
  · rw [exec_take_of_seg released hr, if_pos retiring]
  · rw [exec_take_of_seg released hr, if_neg (by simp [live])]
    rcases taken with console | pending
    · rw [if_pos console]
    · rw [if_pos pending, ite_self]
  · rw [exec_take_of_passes released hr live auto untaken]
    refine ⟨fun quiet => ?_, fun regrading => ?_, fun computing here => ?_, fun computing there => ?_⟩
    · rw [takeSegment_of_quiet quiet]; rfl
    · rw [takeSegment_of_regrading regrading]; rfl
    · rw [takeSegment_of_computing computing, if_pos here]
    · rw [takeSegment_of_computing computing, if_neg there]; rfl

end

end Sys2Proof.Machine
end

section
/-! PROOFS. SET_GRADE, SET_OFFSET, SET_LAMP and SET_CADENCE: the tests of their fields, and the write (O30). -/

namespace Sys2Proof.Machine

section
variable {s : State}

theorem withOwned_of_console {i : Slot} {r : Segment} {act : Slot → Segment → State} (hr : s.seg i = some r)
    (console : r.owner = .console) : s.withOwned i.val act = act i r := by
  rw [State.withOwned, withSegment_of_seg _ _ hr, if_pos console]

theorem withOwned_of_auto {i : Slot} {r : Segment} {act : Slot → Segment → State} (hr : s.seg i = some r)
    (auto : r.owner = .auto) : s.withOwned i.val act = s.refuse .grading .notOwner := by
  rw [State.withOwned, withSegment_of_seg _ _ hr, if_neg (by simp [auto])]

theorem liftOk_eq_false {x : Int} : liftOk x = false ↔ x < -2048 ∨ 2047 < x := by
  simp only [liftOk, Bool.and_eq_false_iff, decide_eq_false_iff_not]
  omega

theorem gainOk_eq_false {n : Nat} : gainOk n = false ↔ n < 256 ∨ 4096 < n := by
  simp only [gainOk, Bool.and_eq_false_iff, decide_eq_false_iff_not]
  omega

theorem fadeOf_isNone {n : Nat} : (fadeOf n).isNone = true ↔ 15 < n ∧ n ≠ 255 := by
  rw [fadeOf]
  split
  · simp only [Option.isNone_some, Bool.false_eq_true, false_iff]; omega
  · split <;> simp <;> omega

theorem fadeOf_of_inside {n : Nat} (h : n ≤ 15 ∨ n = 255) : fadeOf n = some (if n = 255 then none else some n) := by
  rcases h with h | rfl
  · rw [fadeOf, if_pos h, if_neg (by omega)]
  · rfl

theorem cadenceOk_iff {n : Nat} : cadenceOk n = true ↔ n = 0 ∨ n = 16 ∨ n = 18 ∨ n = 24 := by
  simp [cadenceOk, or_assoc]

/-- A check of numbered fields, each with whether it is out of range: the first such field's number, or the value where there is none. -/
def firstFault {α : Type} (value : α) : List (Nat × Bool) → Except Nat α
  | [] => .ok value
  | (n, bad) :: rest => if bad then .error n else firstFault value rest

/-- A check refuses with the lowest-numbered fault of those it tests for. -/
theorem firstFault_of_fault {α : Type} {value : α} {tests : List (Nat × Bool)} {lower higher : List (Nat × Prop)}
    {n : Nat} {bad : Prop} (split : (tests.map fun t => (t.1, t.2 = true)) = lower ++ (n, bad) :: higher)
    (passed : ∀ q ∈ lower, ¬q.2) (here : bad) : firstFault value tests = .error n := by
  induction lower generalizing tests with
  | nil =>
    obtain ⟨t, rest, rfl, first, -⟩ := List.map_eq_cons_iff.mp split
    cases first
    rw [firstFault, if_pos here]
  | cons q lower ih =>
    obtain ⟨t, rest, rfl, rfl, later⟩ := List.map_eq_cons_iff.mp split
    rw [firstFault, if_neg (passed _ List.mem_cons_self)]
    exact ih later fun p hp => passed p (List.mem_cons_of_mem _ hp)

theorem firstFault_of_none {α : Type} {value : α} {tests : List (Nat × Bool)} (h : ∀ t ∈ tests, t.2 = false) :
    firstFault value tests = .ok value := by
  induction tests with
  | nil => rfl
  | cons t rest ih =>
    rw [firstFault, if_neg (by simp [h t List.mem_cons_self])]
    exact ih fun u hu => h u (List.mem_cons_of_mem t hu)

/-- The tests of SET_GRADE's seven fields, by their numbers (R121). -/
def gradeTests (lift : Rgb Int) (gain : Rgb Nat) (fade : Nat) : List (Nat × Bool) :=
  [(1, !liftOk lift.r), (2, !liftOk lift.g), (3, !liftOk lift.b), (4, !gainOk gain.r), (5, !gainOk gain.g),
   (6, !gainOk gain.b), (7, (fadeOf fade).isNone)]

theorem checkGrade_eq (lift : Rgb Int) (gain : Rgb Nat) (fade : Nat) :
    checkGrade lift gain fade = firstFault ((fadeOf fade).getD none) (gradeTests lift gain fade) := by
  simp only [checkGrade, gradeTests, firstFault, Bool.not_eq_true']
  cases fadeOf fade <;> rfl

theorem exec_setGrade_of_fault {i : Slot} {r : Segment} {lift : Rgb Int} {gain : Rgb Nat} {fade field : Nat}
    (released : s.resetHeld = false) (hr : s.seg i = some r) (console : r.owner = .console)
    (fault : checkGrade lift gain fade = .error field) :
    exec (.setGrade i.val lift gain fade) s = .next (s.refuseValue .grading field) := by
  rw [exec_setGrade, execSetGrade, unlessReset_released released, withOwned_of_console hr console]
  simp only [fault]

theorem exec_setGrade_of_good {i : Slot} {r : Segment} {lift : Rgb Int} {gain : Rgb Nat} {fade : Nat}
    {curve : Option Nat} (released : s.resetHeld = false) (hr : s.seg i = some r) (console : r.owner = .console)
    (good : checkGrade lift gain fade = .ok curve) :
    exec (.setGrade i.val lift gain fade) s = .next
      (s.consoleWrite i { r with lift := lift, gain := gain, fade := curve, source := .console }) := by
  rw [exec_setGrade, execSetGrade, unlessReset_released released, withOwned_of_console hr console]
  simp only [good]

theorem exec_setOffset_of_console {i : Slot} {r : Segment} (released : s.resetHeld = false) (hr : s.seg i = some r)
    (console : r.owner = .console) (along across : Int) :
    exec (.setOffset i.val along across) s = .next
      (if along < -4000 ∨ 4000 < along then s.refuseValue .grading 1
       else if across < -2000 ∨ 2000 < across then s.refuseValue .grading 2
       else s.consoleWrite i { r with travelOffset := along, lateralOffset := across }) := by
  rw [exec_setOffset, execSetOffset, unlessReset_released released, withOwned_of_console hr console]

theorem exec_setLamp_of_console {i : Slot} {r : Segment} (released : s.resetHeld = false) (hr : s.seg i = some r)
    (console : r.owner = .console) (lamp : Nat) :
    exec (.setLamp i.val lamp) s = .next
      (if 1023 < lamp then s.refuseValue .grading 1 else s.consoleWrite i { r with lamp := lamp }) := by
  rw [exec_setLamp, execSetLamp, unlessReset_released released, withOwned_of_console hr console]

theorem exec_setCadence_of_console {i : Slot} {r : Segment} (released : s.resetHeld = false) (hr : s.seg i = some r)
    (console : r.owner = .console) (cadence : Nat) :
    exec (.setCadence i.val cadence) s = .next
      (if cadenceOk cadence = false then s.refuseValue .grading 1 else s.consoleWrite i { r with cadence := cadence }) := by
  rw [exec_setCadence, execSetCadence, unlessReset_released released, withOwned_of_console hr console]

/-- Each of the four writes tests the owner before any field (R121, R122). -/
theorem exec_consoleWrite_of_auto {i : Slot} {r : Segment} (released : s.resetHeld = false) (hr : s.seg i = some r)
    (auto : r.owner = .auto) (lift : Rgb Int) (gain : Rgb Nat) (fade lamp cadence : Nat) (along across : Int) :
    ∀ c ∈ [Instr.setGrade i.val lift gain fade, .setOffset i.val along across, .setLamp i.val lamp,
        .setCadence i.val cadence], exec c s = .next (s.refuse .grading .notOwner) := by
  simp only [List.forall_mem_cons]
  refine ⟨?_, ?_, ?_, ?_, nofun⟩
  · rw [exec_setGrade, execSetGrade, unlessReset_released released, withOwned_of_auto hr auto]
  · rw [exec_setOffset, execSetOffset, unlessReset_released released, withOwned_of_auto hr auto]
  · rw [exec_setLamp, execSetLamp, unlessReset_released released, withOwned_of_auto hr auto]
  · rw [exec_setCadence, execSetCadence, unlessReset_released released, withOwned_of_auto hr auto]

/-- Settles O30: the four writes of a console segment by their tests, and the owner's test before them. -/
theorem consoleWritesTaken : Obligations.ConsoleWritesTaken := by
  intro s i r released hr
  refine ⟨fun console => ⟨?_, ?_, ?_, ?_⟩, fun console lift gain fade lamp cadence along across => ⟨?_, ?_, ?_, ?_, ?_⟩,
    exec_consoleWrite_of_auto released hr⟩
  · intro lift gain fade red green blue redGain greenGain blueGain curve
    have passes : ∀ t ∈ gradeTests lift gain fade, t.2 = false := by
      simp only [gradeTests, List.forall_mem_cons, Bool.not_eq_false', liftOk, gainOk, Bool.and_eq_true,
        decide_eq_true_eq, fadeOf_of_inside curve]
      exact ⟨red, green, blue, redGain, greenGain, blueGain, rfl, nofun⟩
    have good : checkGrade lift gain fade = .ok (if fade = 255 then none else some fade) := by
      rw [checkGrade_eq, firstFault_of_none passes, fadeOf_of_inside curve]
      exact congrArg Except.ok (Option.getD_some ..)
    exact exec_setGrade_of_good released hr console good
  · intro along across alongIn acrossIn
    rw [exec_setOffset_of_console released hr console, if_neg (by omega), if_neg (by omega)]
    rfl
  · intro lamp lampIn
    rw [exec_setLamp_of_console released hr console, if_neg (by omega)]
    rfl
  · intro cadence cadenceIn
    rw [exec_setCadence_of_console released hr console, if_neg (by simp [cadenceOk_iff.mpr cadenceIn])]
    rfl
  · intro outside lower n bad higher split passed here
    have same : ((gradeTests lift gain fade).map fun t => (t.1, t.2 = true)) = outside := by
      simp only [gradeTests, outside, List.map_cons, List.map_nil, Bool.not_eq_true', liftOk_eq_false, gainOk_eq_false,
        fadeOf_isNone]
    exact exec_setGrade_of_fault released hr console
      ((checkGrade_eq lift gain fade).trans (firstFault_of_fault (same.trans split) passed here))
  · intro bad
    rw [exec_setOffset_of_console released hr console, if_pos bad]
  · intro good bad
    rw [exec_setOffset_of_console released hr console, if_neg (by omega), if_pos bad]
  · intro bad
    rw [exec_setLamp_of_console released hr console, if_pos bad]
  · intro bad
    have off : cadenceOk cadence = false := by
      rw [Bool.eq_false_iff]
      exact fun ok => by have := cadenceOk_iff.mp ok; omega
    rw [exec_setCadence_of_console released hr console, if_pos off]

end

end Sys2Proof.Machine
end

section
/-! PROOFS. What a request's OK leaves, and what a re-check of deferrals leaves: each writes one part of the state (R139, R171, R173). -/

namespace Sys2Proof.Machine

section
variable (s : State) (k : PortName) (payload : List WireField)

@[simp] theorem ok_seg (i : Slot) : (s.ok k payload).seg i = s.seg i := onLink_seg s k _ i
@[simp] theorem ok_lane (l : Lane) : (s.ok k payload).lane l = s.lane l := onLink_lane s k _ l
@[simp] theorem ok_chain (l : Lane) : (s.ok k payload).chain l = s.chain l := onLink_chain s k _ l
@[simp] theorem ok_freeList : (s.ok k payload).freeList = s.freeList := onLink_freeList s k _
@[simp] theorem ok_computeQueue : (s.ok k payload).computeQueue = s.computeQueue := onLink_computeQueue s k _
@[simp] theorem ok_engine : (s.ok k payload).engine = s.engine := onLink_engine s k _
@[simp] theorem ok_lookup : (s.ok k payload).lookup = s.lookup := onLink_lookup s k _
@[simp] theorem ok_profiles : (s.ok k payload).profiles = s.profiles := onLink_profiles s k _
@[simp] theorem ok_partNotices : (s.ok k payload).partNotices = s.partNotices := onLink_partNotices s k _
@[simp] theorem ok_lease : (s.ok k payload).lease = s.lease := onLink_lease s k _

@[simp] theorem ok_grading_control : (s.ok .grading payload).control = s.control := rfl

@[simp] theorem ok_grading_grading : (s.ok .grading payload).grading =
    { s.grading with
      slot := some { status := .ok, reason := .none, payload := payload, ignored := false }
      dispatched := none } := rfl

end

/-! ### A re-check writes the lookup unit alone (R139) -/

section
variable (s : State) (concerned : Deferral → Bool)

@[simp] theorem recheck_seg (i : Slot) : (s.recheck concerned).seg i = s.seg i := rfl
@[simp] theorem recheck_lane (l : Lane) : (s.recheck concerned).lane l = s.lane l := rfl
@[simp] theorem recheck_chain (l : Lane) : (s.recheck concerned).chain l = s.chain l := rfl
@[simp] theorem recheck_freeList : (s.recheck concerned).freeList = s.freeList := rfl
@[simp] theorem recheck_computeQueue : (s.recheck concerned).computeQueue = s.computeQueue := rfl
@[simp] theorem recheck_engine : (s.recheck concerned).engine = s.engine := rfl
@[simp] theorem recheck_grading : (s.recheck concerned).grading = s.grading := rfl

/-- It reads nothing that it writes. -/
@[simp] theorem recheck_lookupView : (s.recheck concerned).lookupView = s.lookupView := rfl

@[simp] theorem ok_lookupView (k : PortName) (payload : List WireField) :
    (s.ok k payload).lookupView = s.lookupView := by cases k <;> rfl

theorem recheck_lookup : (s.recheck concerned).lookup = recheckedUnit s concerned s.lookup :=
  congrArg State.lookup (recheck_eq s concerned)

end

end Sys2Proof.Machine
end

section
/-! PROOFS. RELEASE hands a segment back (O29). -/

namespace Sys2Proof.Machine

/-- The part with a segment handed back and HANDBACK raised, before the segment's freeing (R120). -/
def State.handedBackAt (s : State) (i : Slot) (r : Segment) : State :=
  (s.putSeg i (some r.handedBack)).raisePart .handback (some i)

section
variable {s : State} {i : Slot} {r : Segment}

theorem exec_release_of_auto (released : s.resetHeld = false) (hr : s.seg i = some r) (auto : r.owner = .auto) :
    exec (.release i.val) s = .next (s.refuse .grading .notOwner) := by
  rw [exec_release, execRelease, unlessReset_released released, withSegment_of_seg _ _ hr, if_pos auto]

theorem exec_release_of_console (released : s.resetHeld = false) (hr : s.seg i = some r) (console : r.owner = .console) :
    exec (.release i.val) s = .next (((s.handedBackAt i r).retire fun j => decide (j = i)).ok .grading) := by
  rw [exec_release, execRelease, unlessReset_released released, withSegment_of_seg _ _ hr, if_neg (by simp [console])]
  rfl

theorem handedBackAt_seg (s : State) (i : Slot) (r : Segment) : (s.handedBackAt i r).seg i = some r.handedBack :=
  putSeg_seg s i (some r.handedBack)

/-- A LIVE segment that is handed back stays. -/
theorem retire_handedBackAt_of_live (live : r.life = .live) :
    (s.handedBackAt i r).retire (fun j => decide (j = i)) = s.handedBackAt i r := by
  have kept : r.handedBack.life ≠ .retiring := by simp [Segment.handedBack, Segment.bump, live]
  refine retire_of_held ?_
  simp only [State.retireSlot, handedBackAt_seg, kept, false_and, if_false]

theorem handedBackAt_slotLaws (slots : SlotLaws s) (hr : s.seg i = some r) : SlotLaws (s.handedBackAt i r) :=
  slots.of_slotView ((raisePart_slotView _ _ _).trans (putSeg_slotView (q := r.handedBack) hr rfl))

/-- With the console's hold gone and no computation, no take and no entry that awaits it, nothing holds the segment (R155). -/
theorem handedBackAt_unheld (untaken : r.takePending = false) (settled : r.phase = .settled)
    (unawaited : ∀ e ∈ s.lookup.deferred, e.reason ≠ .segment i) :
    (s.handedBackAt i r).held i r.handedBack = false := by
  have lookup : (s.handedBackAt i r).lookup = s.lookup := rfl
  simpa [State.held, Segment.handedBack, Segment.bump, untaken, settled, Deferral.awaits, lookup] using unawaited

/-- The freed segment's slot, its chain and the end of its closing, beside the state before the RELEASE. -/
theorem release_slotFreed (slots : SlotLaws s) (hr : s.seg i = some r) :
    SlotFreed r.lane i s (((s.handedBackAt i r).freeSlot i).endClosing r.lane) :=
  (slotFreed_of_freeSlot (r := r.handedBack) (handedBackAt_slotLaws slots hr) (handedBackAt_seg s i r)).of_lane rfl rfl rfl

/-- Settles O29: the owner's test, the segment handed back, and the freeing of a RETIRING one that nothing holds. -/
theorem releaseHandsBack : Obligations.ReleaseHandsBack := by
  intro s i r released hr
  refine ⟨exec_release_of_auto released hr, fun console live => ?_,
    fun slots console retiring untaken settled unawaited => ?_⟩
  · rw [exec_release_of_console released hr console, retire_handedBackAt_of_live live]
    rfl
  · have freed := retire_of_unheld (handedBackAt_slotLaws slots hr) (handedBackAt_seg s i r) retiring
      (handedBackAt_unheld untaken settled unawaited)
    obtain ⟨record, free, chain, ended, -⟩ := release_slotFreed slots hr
    refine ⟨_, exec_release_of_console released hr console, ?_⟩
    rw [freed]
    simp only [ok_seg, ok_lane, ok_chain, ok_freeList, ok_lookup, ok_partNotices, ok_grading_grading]
    refine ⟨record, free, chain, ?_, fun j hj => ?_, ?_, trivial, fun closing only => ?_⟩
    · have notices := partNotices_of_settings
        ((endClosing_settings _ r.lane).trans (freeSlot_settings (s.handedBackAt i r) i))
      exact (congrArg (fun v => v[0]) notices).trans (raisePart_partNotices _ .handback (some i))
    · have others := (freeSlot_of_seg (handedBackAt_seg s i r)).2.1 j hj
      exact ((endClosing_seg _ _ j).trans others).trans (putSeg_seg_other s i _ j hj)
    · exact (endClosing_lookup _ _).trans (freeSlot_lookup _ _)
    · obtain ⟨reel, -, -, -, notice⟩ := ended closing only
      exact ⟨reel, notice⟩

end

end Sys2Proof.Machine
end

section
/-! PROOFS. CUT splits a segment in two (O31). -/

namespace Sys2Proof.Machine

section
variable {s : State} {i : Slot} {a : Segment} {frame : Nat}

/-- A write of a lane reads that lane alone. -/
theorem onLane_congr {l : Lane} {f g : LaneState → LaneState} (h : f (s.lane l) = g (s.lane l)) :
    s.onLane l f = s.onLane l g := by
  have same : update s.lanes l f = update s.lanes l g := congrArg (fun x => s.lanes.set l.val x l.isLt) h
  simp only [State.onLane, same]

theorem onLane_onLane (s : State) (l : Lane) (f g : LaneState → LaneState) :
    (s.onLane l f).onLane l g = s.onLane l fun x => g (f x) := by
  simp only [State.onLane, update_update]

/-- The last frame covered: the segment's own, or the tracker's frame while it is open (R7). -/
theorem lastCovered_eq {last : Nat}
    (h : a.last = some last ∨ (a.last = none ∧ (s.lane a.lane).tracker.current = some last)) :
    s.lastCovered a = last := by
  rcases h with closed | ⟨openEnd, current⟩
  · simp [State.lastCovered, closed]
  · simp [State.lastCovered, openEnd, current]

/-- The chain with the second part after the first, and the queue with the candidates at or before the frame dropped where the segment is open (R125, R126). -/
def LaneState.cutAt (i j : Slot) (a : Segment) (frame : Nat) (x : LaneState) : LaneState :=
  { x with
    reel := { x.reel with chain := insertAfter i j x.reel.chain }
    queue := if a.last = none then x.queue.filter fun e => decide (frame < e.frame) else x.queue }

/-- A CUT writes the two records and the lane, and re-checks the lane's deferrals. -/
theorem cutSegment_eq (j : Slot) {last : Nat} {d : ReelLoad} (loaded : (s.lane a.lane).reel.load = some d)
    (covered : s.lastCovered a = last) : s.cutSegment i j a frame =
    (((s.putSeg i (some ({ a with last := some (frame - 1) } : Segment).bump)).putSeg j
      (some (a.secondPart d.profile frame last))).onLane a.lane (LaneState.cutAt i j a frame)).recheck
        fun e => decide (e.lane = a.lane) := by
  simp only [State.cutSegment, State.install, State.onReel, State.setQueue, loaded, covered, Option.map_some,
    Option.getD_some]
  split
  · rename_i openEnd
    rw [onLane_onLane]
    refine congrArg (State.recheck · _) (onLane_congr ?_)
    simp only [LaneState.cutAt, if_pos openEnd, putSeg_lane]
  · rename_i closed
    refine congrArg (State.recheck · _) (onLane_congr ?_)
    simp only [LaneState.cutAt, if_neg closed]

/-- A CUT that passes the tests before the allocation (R124). -/
theorem exec_cut_of_inside (released : s.resetHeld = false) (ha : s.seg i = some a) (live : a.life = .live)
    (settled : a.phase = .settled) (inside : ¬(frame ≤ a.first ∨ s.lastCovered a < frame)) :
    (s.allocate a.lane = none → exec (.cut i.val frame) s = .next (s.refuse .grading .noSpace)) ∧
    ∀ j t, s.allocate a.lane = some (j, t) →
      exec (.cut i.val frame) s = .next ((t.cutSegment i j a frame).ok .grading [wire 1 j.val]) := by
  have retained : a.life ≠ .retiring := by simp [live]
  rw [exec_cut, execCut, unlessReset_released released, withSegment_of_seg _ _ ha, if_neg retained,
    if_neg (not_not_intro settled), if_neg inside]
  exact ⟨fun full => by simp only [full], fun j t taken => by simp only [taken]⟩

/-- Settles O31: the tests of R124 in their order, and the two parts of R125. -/
theorem cutSplitsSegment : Obligations.CutSplitsSegment := by
  intro s i a f last released ha covered
  have lastFrame := lastCovered_eq covered
  have inside : a.first < f → f ≤ last → ¬(f ≤ a.first ∨ s.lastCovered a < f) := by omega
  have cut : exec (.cut i.val f) s = execCut i.val f s := exec_cut s i.val f
  refine ⟨fun retiring => ?_, fun live busy => ?_, fun live settled outside => ?_,
    fun live settled past upTo full => ?_, fun j rest d live settled past upTo free room loaded => ?_⟩
  · rw [cut, execCut, unlessReset_released released, withSegment_of_seg _ _ ha, if_pos retiring]
  · rw [cut, execCut, unlessReset_released released, withSegment_of_seg _ _ ha, if_neg (by simp [live]), if_pos busy]
  · rw [cut, execCut, unlessReset_released released, withSegment_of_seg _ _ ha, if_neg (by simp [live]),
      if_neg (not_not_intro settled), if_pos (lastFrame.symm ▸ outside)]
  · exact (exec_cut_of_inside released ha live settled (inside past upTo)).1 (allocate_eq_none.mpr full)
  · intro b cutRecords placed
    have taken := (exec_cut_of_inside released ha live settled (inside past upTo)).2 j { s with freeList := rest }
      (allocate_eq_some.mpr ⟨rest, free, room, rfl⟩)
    rw [taken, cutSegment_eq (s := { s with freeList := rest }) j loaded lastFrame]
    rfl

end

end Sys2Proof.Machine
end

section
/-! PROOFS. JOIN absorbs the successor (O32). -/

namespace Sys2Proof.Machine

/-! ### The successor in a chain (R127) -/

theorem successorOf_next {i j : Slot} {front : List Slot} (back : List Slot) (h : i ∉ front) :
    successorOf i (front ++ i :: j :: back) = some j := by
  induction front with
  | nil => simp [successorOf]
  | cons k rest ih =>
    obtain ⟨other, absent⟩ := not_or.mp (mt List.mem_cons.mpr h)
    rw [List.cons_append, successorOf, if_neg (Ne.symm other), ih absent]

theorem successorOf_last {i : Slot} {front : List Slot} (h : i ∉ front) : successorOf i (front ++ [i]) = none := by
  induction front with
  | nil => simp [successorOf]
  | cons k rest ih =>
    obtain ⟨other, absent⟩ := not_or.mp (mt List.mem_cons.mpr h)
    rw [List.cons_append, successorOf, if_neg (Ne.symm other), ih absent]

/-- A chain without the slot that follows another. -/
theorem erase_next {i j : Slot} {front back : List Slot} (h : (front ++ i :: j :: back).Nodup) :
    j ≠ i ∧ (front ++ i :: j :: back).erase j = front ++ i :: back := by
  obtain ⟨-, later, apart⟩ := List.nodup_append.mp h
  obtain ⟨first, -⟩ := List.nodup_cons.mp later
  have other : j ≠ i := fun e => first (e ▸ List.mem_cons_self)
  have absent : j ∉ front := fun e => apart j e j (List.mem_cons_of_mem i List.mem_cons_self) rfl
  refine ⟨other, ?_⟩
  rw [List.erase_append_right _ absent, List.erase_cons_tail (by simp [Ne.symm other]), List.erase_cons_head]

section
variable {s : State} {i j : Slot} {a b : Segment}

/-! ### The tests of R127 -/

theorem exec_join_of_retiring (released : s.resetHeld = false) (ha : s.seg i = some a) (retiring : a.life = .retiring) :
    exec (.join i.val) s = .next (s.refuse .grading .closing) := by
  rw [exec_join, execJoin, unlessReset_released released, withSegment_of_seg _ _ ha, if_pos retiring]

theorem exec_join_of_last (released : s.resetHeld = false) (ha : s.seg i = some a) (live : a.life = .live)
    (last : successorOf i (s.chain a.lane) = none) : exec (.join i.val) s = .next (s.refuse .grading .noSuccessor) := by
  rw [exec_join, execJoin, unlessReset_released released, withSegment_of_seg _ _ ha, if_neg (by simp [live])]
  simp only [last, Option.bind_none]

/-- With a successor, the tests of the phases and of the owners (R127). -/
theorem exec_join_of_next (released : s.resetHeld = false) (ha : s.seg i = some a) (live : a.life = .live)
    (next : successorOf i (s.chain a.lane) = some j) (hb : s.seg j = some b) :
    exec (.join i.val) s = .next
      (if a.phase ≠ .settled ∨ b.phase ≠ .settled then s.refuse .grading .busy
       else if a.owner ≠ b.owner ∨ a.takePending = true ∨ b.takePending = true then s.refuse .grading .ownerDiffers
       else (s.joinSegments i j a b).ok .grading) := by
  rw [exec_join, execJoin, unlessReset_released released, withSegment_of_seg _ _ ha, if_neg (by simp [live])]
  simp only [next, hb, Option.bind_some, Option.map_some]

/-! ### What a JOIN leaves (R128) -/

/-- The part with the survivor written and the successor freed, before the re-check of the lane's deferrals. -/
def State.joinedAt (s : State) (i j : Slot) (a b : Segment) : State := (s.putSeg i (some (a.joined b))).freeSlot j

/-- The survivor, the successor's slot, the chain and the engine, after a JOIN of two SETTLED segments of one chain. -/
structure JoinLeaves (i j : Slot) (a b : Segment) (s t : State) : Prop where
  survivor : t.seg i = some (a.joined b)
  absorbed : t.seg j = none
  others : ∀ k, k ≠ i → k ≠ j → t.seg k = s.seg k
  freeList : t.freeList = s.freeList ++ [j]
  lane : t.lane a.lane =
    { s.lane a.lane with reel := { (s.lane a.lane).reel with chain := (s.chain a.lane).erase j } }
  otherLanes : ∀ l, l ≠ a.lane → t.lane l = s.lane l
  computeQueue : t.computeQueue = s.computeQueue
  engine : t.engine = s.engine

theorem JoinLeaves.chain {t : State} (h : JoinLeaves i j a b s t) : t.chain a.lane = (s.chain a.lane).erase j :=
  congrArg (fun d => d.reel.chain) h.lane

/-- Nothing of a lane is changed but its chain. -/
theorem JoinLeaves.reels {t : State} (h : JoinLeaves i j a b s t) (l : Lane) :
    t.lane l = { s.lane l with reel := { (s.lane l).reel with chain := t.chain l } } := by
  by_cases e : l = a.lane
  · rw [e, h.chain, h.lane]
  · rw [State.chain, h.otherLanes l e]

/-- A SETTLED successor stands in no queue and in no engine, so its freeing cancels nothing (R4). -/
theorem joinedAt_leaves (engine : EngineLaws s) (hb : s.seg j = some b) (settled : b.phase = .settled)
    (oneLane : b.lane = a.lane) (other : j ≠ i) : JoinLeaves i j a b s (s.joinedAt i j a b) := by
  have here : (s.putSeg i (some (a.joined b))).seg j = some b := (putSeg_seg_other _ _ _ _ other).trans hb
  obtain ⟨gone, others, free, lane, otherLanes, queue, begun⟩ := freeSlot_of_seg here
  obtain ⟨⟨unqueued, idle⟩, -⟩ := engine.outside hb (by simp [settled])
  rw [oneLane] at lane otherLanes
  exact
    { survivor := (others i (Ne.symm other)).trans (putSeg_seg _ _ _)
      absorbed := gone
      others := fun k first second => (others k second).trans (putSeg_seg_other _ _ _ _ first)
      freeList := free
      lane := lane
      otherLanes := otherLanes
      computeQueue := queue.trans (List.erase_of_not_mem unqueued)
      engine := begun.trans (if_neg idle) }

theorem joinedAt_settings (s : State) (i j : Slot) (a b : Segment) : (s.joinedAt i j a b).settings = s.settings :=
  (freeSlot_settings _ j).trans (putSeg_settings s i _)

theorem joinedAt_lookup (s : State) (i j : Slot) (a b : Segment) : (s.joinedAt i j a b).lookup = s.lookup :=
  freeSlot_lookup _ j

/-- Settles O32: the tests of R127 in their order, and the survivor, the freeing and the re-check of R128. -/
theorem joinAbsorbsSuccessor : Obligations.JoinAbsorbsSuccessor := by
  intro s i a released ha
  refine ⟨exec_join_of_retiring released ha, fun front live chain absent => ?_,
    fun j b front back live chain absent hb => ?_⟩
  · exact exec_join_of_last released ha live (chain ▸ successorOf_last absent)
  have taken := exec_join_of_next released ha live (chain ▸ successorOf_next back absent) hb
  refine ⟨fun busy => taken.trans (by rw [if_pos busy]), fun first second => ⟨fun differ => ?_,
    fun owner untaken untakenNext slots engine => ?_⟩⟩
  · rw [taken, if_neg (by simp [first, second]), if_pos differ]
  have oneLane : b.lane = a.lane := ((slots.mem_chain_iff hb).mp (by simp [chain])).symm
  have nodup : (s.chain a.lane).Nodup := (slotLaws_iff.mp slots).nodup_chain a.lane
  rw [chain] at nodup
  obtain ⟨other, erased⟩ := erase_next nodup
  have leaves := joinedAt_leaves (a := a) engine hb second oneLane other
  have settings := joinedAt_settings s i j a b
  refine ⟨((s.joinedAt i j a b).recheck fun e => decide (e.lane = a.lane)).ok .grading, ?_, ?_⟩
  · rw [taken, if_neg (by simp [first, second]), if_neg (by simp [owner, untaken, untakenNext])]
    rfl
  simp only [ok_seg, ok_lane, ok_chain, ok_freeList, ok_computeQueue, ok_engine, ok_lookup, recheck_seg, recheck_lane,
    recheck_chain, recheck_freeList, recheck_computeQueue, recheck_engine]
  refine ⟨leaves.survivor, leaves.absorbed, leaves.freeList, ?_, leaves.others, fun l => ?_, fun l => ?_, fun l e => ?_,
    leaves.computeQueue, leaves.engine, ?_, ?_, ?_, ?_, ?_, ?_, ?_⟩
  · rw [leaves.chain, chain, erased]
  · rw [leaves.reels]
  · rw [leaves.reels]
  · rw [State.chain, leaves.otherLanes l e, State.chain]
  · exact (ok_profiles ..).trans (profiles_of_settings settings)
  · exact (ok_grading_control ..).trans (control_of_settings settings)
  · exact (ok_lease ..).trans (lease_of_settings settings)
  · exact (ok_partNotices ..).trans (partNotices_of_settings settings)
  · rw [State.reservations, ok_lookup]
    exact (recheck_reservations _ _).trans (by rw [State.reservations, joinedAt_lookup, State.reservations])
  · rw [recheck_lookup, joinedAt_lookup]
    rw [recheckedUnit_congr ((ok_lookupView _ .grading []).trans (recheck_lookupView (s.joinedAt i j a b) _))]
  · rw [ok_grading_grading, recheck_grading, grading_of_settings settings]

end

end Sys2Proof.Machine
end

section
/-! PROOFS. The retirement of many slots at the end of one event: it leaves the part as freedAfter has it (R4, R156-R158). -/

namespace Sys2Proof.Machine

/-! ### The slots that a retirement frees -/

/-- A retirement of the slots named frees the RETIRING ones among them that nothing holds (R155, R156). -/
def State.retires (s : State) (named : Slot → Bool) (i : Slot) : Bool :=
  named i && (s.seg i).any fun r => decide (r.life = .retiring) && !s.held i r

/-- A lane after the slots that `gone` picks have left its chain: a CLOSING reel whose chain that leaves empty is EMPTY (R158). -/
def LaneState.freed (gone : Slot → Bool) (d : LaneState) : LaneState :=
  let left := d.reel.chain.filter fun i => !gone i
  if d.reel.state = .closing ∧ left = [] ∧ d.reel.chain ≠ [] then
    { d with
      reel := { state := .empty, load := none, chain := [] }
      tracker := { d.tracker with current := none, lastPosition := none, deadline := none }
      notices := d.notices.set 10 { raised := true, latest := none } }
  else { d with reel := { d.reel with chain := left } }

section
variable {s t : State} {named gone : Slot → Bool} {i : Slot} {l : Lane}

/-- Whether a slot is freed is read of its record and of the Deferred Set. -/
theorem retires_congr (seg : t.seg i = s.seg i) (lookup : t.lookup = s.lookup) :
    t.retires named i = s.retires named i := by
  simp only [State.retires, State.held, seg, lookup]

/-- Its re-check frees a slot or does nothing (R156). -/
theorem retireSlot_of_named : (if named i = true then s.retireSlot i else s) =
    if s.retires named i = true then s.freeSlot i else s := by
  cases hr : s.seg i with
  | none => simp [State.retires, State.retireSlot, hr]
  | some r => by_cases hn : named i = true <;> simp [State.retires, State.retireSlot, hr, hn]

theorem retires_recorded (h : s.retires named i = true) : ∃ r, s.seg i = some r := by
  cases hr : s.seg i with
  | none => simp [State.retires, hr] at h
  | some r => exact ⟨r, rfl⟩

/-! ### Along one chain (R157) -/

/-- What the freeing of those of the slots `is`, of lane `l`, that `gone` picks leaves of the records, the Free List and the chain. -/
structure ChainRetired (gone : Slot → Bool) (l : Lane) (is : List Slot) (s t : State) : Prop where
  seg : ∀ k, t.seg k = if k ∈ is ∧ gone k = true then none else s.seg k
  freeList : t.freeList = s.freeList ++ is.filter gone
  chain : t.chain l = (s.chain l).filter fun k => !(decide (k ∈ is) && gone k)
  lane : t.lane l = { s.lane l with reel := { (s.lane l).reel with chain := t.chain l } }
  otherLanes : ∀ m, m ≠ l → t.lane m = s.lane m

theorem chainRetired_nil (s : State) : ChainRetired gone l [] s s where
  seg := by simp
  freeList := by simp
  chain := (List.filter_eq_self.mpr fun k _ => by simp).symm
  lane := rfl
  otherLanes _ _ := rfl

/-- A slot that stays adds nothing. -/
theorem ChainRetired.cons_kept {is : List Slot} (h : ChainRetired gone l is s t) (kept : gone i = false) :
    ChainRetired gone l (i :: is) s t where
  seg k := by
    rw [h.seg k]
    by_cases e : k = i
    · simp [e, kept]
    · simp [e]
  freeList := by rw [h.freeList, List.filter_cons_of_neg (by simp [kept])]
  chain := by
    rw [h.chain]
    refine List.filter_congr fun k _ => ?_
    by_cases e : k = i
    · simp [e, kept]
    · simp [e]
  lane := h.lane
  otherLanes := h.otherLanes

/-- A slot that is freed first goes before the others. -/
theorem ChainRetired.cons_freed {is : List Slot} {r : Segment} (h : ChainRetired gone l is (s.freeSlot i) t)
    (hr : s.seg i = some r) (here : r.lane = l) (nodup : (s.chain l).Nodup) (freed : gone i = true) :
    ChainRetired gone l (i :: is) s t := by
  obtain ⟨record, others, free, lane, otherLanes, -, -⟩ := freeSlot_of_seg hr
  rw [here] at lane otherLanes
  have chain : (s.freeSlot i).chain l = (s.chain l).filter (· != i) := by
    rw [← nodup.erase_eq_filter, State.chain, lane]
  exact
    { seg := fun k => by
        rw [h.seg k]
        by_cases e : k = i
        · simp [e, record, freed]
        · simp [e, others k e]
      freeList := by rw [h.freeList, free, List.filter_cons_of_pos freed, List.append_assoc, List.singleton_append]
      chain := by
        rw [h.chain, chain, List.filter_filter]
        refine List.filter_congr fun k _ => ?_
        by_cases e : k = i
        · simp [e, freed]
        · simp [e]
      lane := by rw [h.lane, lane]
      otherLanes := fun m hm => (h.otherLanes m hm).trans (otherLanes m hm) }

/-- The re-check of a list of slots of one lane frees those that it names and nothing holds. -/
theorem foldl_retireSlot {is : List Slot} (nodup : is.Nodup) (chain : (s.chain l).Nodup)
    (lanes : ∀ k ∈ is, ∀ r, s.seg k = some r → r.lane = l) (frees : ∀ k ∈ is, s.retires named k = gone k) :
    ChainRetired gone l is s (is.foldl (fun s k => if named k then s.retireSlot k else s) s) := by
  induction is generalizing s with
  | nil => exact chainRetired_nil s
  | cons i rest ih =>
    obtain ⟨absent, nodup⟩ := List.nodup_cons.mp nodup
    have here := frees i List.mem_cons_self
    rw [List.foldl_cons, retireSlot_of_named, here]
    by_cases freed : gone i = true
    · obtain ⟨r, hr⟩ := retires_recorded (here.trans freed)
      have lane := lanes i List.mem_cons_self r hr
      obtain ⟨-, others, -, left, -, -, -⟩ := freeSlot_of_seg hr
      have kept : ∀ k ∈ rest, (s.freeSlot i).seg k = s.seg k := fun k hk => others k fun e => absent (e ▸ hk)
      have shorter : ((s.freeSlot i).chain l).Nodup := by
        rw [State.chain, ← lane, left]
        exact (lane ▸ chain).erase i
      rw [if_pos freed]
      refine (ih nodup shorter (fun k hk q hq => ?_) fun k hk => ?_).cons_freed hr lane chain freed
      · exact lanes k (List.mem_cons_of_mem i hk) q ((kept k hk).symm.trans hq)
      · rw [retires_congr (kept k hk) (freeSlot_lookup s i), frees k (List.mem_cons_of_mem i hk)]
    · rw [if_neg freed]
      exact (ih nodup chain (fun k hk => lanes k (List.mem_cons_of_mem i hk)) fun k hk =>
        frees k (List.mem_cons_of_mem i hk)).cons_kept (Bool.eq_false_iff.mpr freed)

/-! ### One lane, with the end of its closing (R157, R158) -/

/-- What the freeing of the slots of lane `l` that `gone` picks leaves, with the end of the closing where none is left. -/
structure LaneRetired (gone : Slot → Bool) (l : Lane) (s t : State) : Prop where
  seg : ∀ k, t.seg k = if k ∈ s.chain l ∧ gone k = true then none else s.seg k
  freeList : t.freeList = s.freeList ++ (s.chain l).filter gone
  lane : t.lane l = (s.lane l).freed gone
  otherLanes : ∀ m, m ≠ l → t.lane m = s.lane m

/-- The re-check of a lane's chain, and then the end of a closing that has none left. -/
theorem ChainRetired.endClosing (h : ChainRetired gone l (s.chain l) s t) :
    LaneRetired gone l s (if (t.chain l).length < (s.chain l).length then t.endClosing l else t) := by
  have chain : t.chain l = (s.chain l).filter fun k => !gone k := by
    rw [h.chain]
    exact List.filter_congr fun k hk => by simp [hk]
  have state : (t.lane l).reel.state = (s.lane l).reel.state := by rw [h.lane]
  by_cases ends : (s.lane l).reel.state = .closing ∧ t.chain l = [] ∧ s.chain l ≠ []
  · obtain ⟨closing, empty, stocked⟩ := ends
    have shorter : (t.chain l).length < (s.chain l).length := by
      rw [empty]
      exact List.length_pos_iff.mpr stocked
    rw [if_pos shorter]
    exact
      { seg := fun k => (endClosing_seg t l k).trans (h.seg k)
        freeList := by rw [← h.freeList, State.endClosing]; split <;> rfl
        lane := by
          rw [endClosing_lane_of_ends (state.trans closing) empty, h.lane]
          exact (if_pos ⟨closing, chain.symm.trans empty, stocked⟩).symm
        otherLanes := fun m hm => (endClosing_lane_other t hm).trans (h.otherLanes m hm) }
  · have stays : (if (t.chain l).length < (s.chain l).length then t.endClosing l else t) = t := by
      split
      · rename_i shorter
        have stocked : s.chain l ≠ [] := List.ne_nil_of_length_pos (Nat.zero_lt_of_lt shorter)
        exact if_neg fun now => ends ⟨state.symm.trans now.1, now.2, stocked⟩
      · rfl
    rw [stays]
    exact
      { seg := h.seg
        freeList := h.freeList
        lane := by
          rw [h.lane, chain]
          exact (if_neg fun now => ends ⟨now.1, chain.trans now.2.1, now.2.2⟩).symm
        otherLanes := h.otherLanes }

/-- The chain of a lane holds each slot once, and records of that lane alone (R1, R22). -/
theorem retireLane_retired (slots : SlotLaws s) (frees : ∀ k ∈ s.chain l, s.retires named k = gone k) :
    LaneRetired gone l s (s.retireLane named l) := by
  have nodup : (s.chain l).Nodup := (slotLaws_iff.mp slots).nodup_chain l
  have lanes : ∀ k ∈ s.chain l, ∀ r, s.seg k = some r → r.lane = l := fun k hk r hr =>
    ((slots.mem_chain_iff hr).mp hk).symm
  exact (foldl_retireSlot nodup nodup lanes frees).endClosing

/-! ### The lanes in turn -/

/-- What the freeing on some of the lanes leaves. -/
structure LanesRetired (gone : Slot → Bool) (ls : List Lane) (s t : State) : Prop where
  seg : ∀ k, t.seg k = if (∃ l ∈ ls, k ∈ s.chain l) ∧ gone k = true then none else s.seg k
  freeList : t.freeList = s.freeList ++ (ls.flatMap s.chain).filter gone
  lane : ∀ l, t.lane l = if l ∈ ls then (s.lane l).freed gone else s.lane l
  slots : SlotLaws t
  lookup : t.lookup = s.lookup

/-- A lane's freeing meets its slots as they were, for no other lane's chain holds them. -/
theorem LanesRetired.snoc {ls : List Lane} (h : LanesRetired gone ls s t) (slots : SlotLaws s) (fresh : l ∉ ls)
    (frees : ∀ k, s.retires named k = gone k) : LanesRetired gone (ls ++ [l]) s (t.retireLane named l) := by
  have lane : t.lane l = s.lane l := (h.lane l).trans (if_neg fresh)
  have chain : t.chain l = s.chain l := congrArg (fun d => d.reel.chain) lane
  have seg : ∀ k ∈ s.chain l, t.seg k = s.seg k := fun k hk => by
    rw [h.seg k, if_neg]
    rintro ⟨⟨m, hm, other⟩, freed⟩
    obtain ⟨r, hr⟩ := retires_recorded ((frees k).trans freed)
    have same : m = l := ((slots.mem_chain_iff hr).mp other).trans ((slots.mem_chain_iff hr).mp hk).symm
    exact fresh (same ▸ hm)
  have here : LaneRetired gone l t (t.retireLane named l) := retireLane_retired h.slots fun k hk => by
    rw [retires_congr (seg k (chain ▸ hk)) h.lookup, frees k]
  exact
    { seg := fun k => by
        rw [here.seg k, h.seg k, chain]
        by_cases hk : k ∈ s.chain l <;> by_cases hg : gone k = true <;> simp [hk, hg, or_and_right, exists_or]
      freeList := by rw [here.freeList, h.freeList, chain]; simp [List.append_assoc]
      lane := fun m => by
        by_cases e : m = l
        · rw [e, here.lane, lane, if_pos (by simp)]
        · rw [here.otherLanes m e, h.lane m]
          simp [e]
      slots := h.slots.retireLane named l
      lookup := (retireLane_lookup t named l).trans h.lookup }

theorem LanesRetired.append {done ls : List Lane} (h : LanesRetired gone done s t) (slots : SlotLaws s)
    (frees : ∀ k, s.retires named k = gone k) (nodup : (done ++ ls).Nodup) :
    LanesRetired gone (done ++ ls) s (ls.foldl (fun u l => u.retireLane named l) t) := by
  induction ls generalizing done t with
  | nil => rw [List.append_nil]; exact h
  | cons l rest ih =>
    obtain ⟨-, -, apart⟩ := List.nodup_append.mp nodup
    rw [List.append_cons] at nodup ⊢
    exact ih (h.snoc slots (fun hl => apart l hl l List.mem_cons_self rfl) frees) nodup

theorem lanesRetired (slots : SlotLaws s) (frees : ∀ k, s.retires named k = gone k) {ls : List Lane} (nodup : ls.Nodup) :
    LanesRetired gone ls s (ls.foldl (fun u l => u.retireLane named l) s) := by
  have start : LanesRetired gone [] s s :=
    { seg := by simp, freeList := by simp, lane := by simp, slots := slots, lookup := rfl }
  exact start.append slots frees nodup

end

/-! ### The whole retirement -/

/-- A state is its settings, its lanes, its records and lists, its engine and its lookup unit. -/
theorem state_ext {s t : State} (settings : t.settings = s.settings) (lane : ∀ l, t.lane l = s.lane l)
    (seg : ∀ k, t.seg k = s.seg k) (freeList : t.freeList = s.freeList) (computeQueue : t.computeQueue = s.computeQueue)
    (engine : t.engine = s.engine) (lookup : t.lookup = s.lookup) : t = s := by
  have lanes : t.lanes = s.lanes := vector_ext lane
  have segments : t.segments = s.segments := vector_ext seg
  cases s
  cases t
  simp only [State.settings, Settings.mk.injEq] at *
  simp [*]

/-- A retirement that names no slot does nothing. -/
theorem retire_of_none {s : State} {named : Slot → Bool} (h : ∀ i, named i = false) : s.retire named = s := by
  have lane : ∀ l, s.retireLane named l = s := fun l => by
    have chain : ∀ is : List Slot, is.foldl (fun u i => if named i then u.retireSlot i else u) s = s := by
      intro is
      induction is with
      | nil => rfl
      | cons i rest ih => rw [List.foldl_cons, if_neg (by simp [h i]), ih]
    simp only [State.retireLane, State.retireChain, chain, Nat.lt_irrefl, if_false]
  simp only [State.retire, lane]

/-- A freeing writes no record but the one it frees. -/
theorem seg_of_freeSlot {s : State} {i k : Slot} {r : Segment} (h : (s.freeSlot i).seg k = some r) :
    s.seg k = some r := by
  cases hi : s.seg i with
  | none => rw [← freeSlot_of_free hi]; exact h
  | some q =>
    obtain ⟨gone, others, -⟩ := freeSlot_of_seg hi
    by_cases e : k = i
    · rw [e, gone] at h; cases h
    · exact (others k e).symm.trans h

/-- A record that stands after a retirement stood before it. -/
theorem seg_of_retire {s : State} {named : Slot → Bool} {k : Slot} {r : Segment}
    (h : (s.retire named).seg k = some r) : s.seg k = some r :=
  KeptByRetirement.retire_kept (named := named) (s := s) (P := fun t => t.seg k = some r → s.seg k = some r)
    { freeSlot := fun ht _ _ _ hk => ht (seg_of_freeSlot hk)
      endClosing := fun {t} l ht hk => ht ((endClosing_seg t l k).symm.trans hk) } id h

theorem freedAfter_seg (gone : Slot → Bool) (s : State) (k : Slot) :
    (freedAfter gone s).seg k = if gone k then none else s.seg k :=
  Vector.getElem_ofFn ..

theorem freedAfter_lane (gone : Slot → Bool) (s : State) (l : Lane) :
    (freedAfter gone s).lane l = (s.lane l).freed gone :=
  Vector.getElem_ofFn ..

section
variable {s : State} {named : Slot → Bool}

/-- Where only COMPUTING segments stand in the queue or the engine, a retirement cancels no computation (R103, R155). -/
theorem retire_engine (apart : ∀ k r, s.seg k = some r → r.phase ≠ .computing → s.Outside k) :
    (s.retire named).computeQueue = s.computeQueue ∧ (s.retire named).engine = s.engine := by
  have kept := KeptByRetirement.retire_kept (named := named) (s := s)
    (P := fun t => (∀ k r, t.seg k = some r → s.seg k = some r) ∧ t.computeQueue = s.computeQueue ∧ t.engine = s.engine)
    { freeSlot := fun {t k r} ht _ hr unheld => by
        obtain ⟨same, queue, engine⟩ := ht
        obtain ⟨-, -, -, -, -, left, begun⟩ := freeSlot_of_seg hr
        obtain ⟨unqueued, idle⟩ := apart k r (same k r hr) fun computing => by simp [State.held, computing] at unheld
        refine ⟨fun j q hq => same j q (seg_of_freeSlot hq), ?_, ?_⟩
        · rw [left, queue, List.erase_of_not_mem unqueued]
        · rw [begun, engine, if_neg idle]
      endClosing := fun {t} l ht => by
        obtain ⟨same, queue, engine⟩ := ht
        exact ⟨fun k r hr => same k r ((endClosing_seg t l k).symm.trans hr), (endClosing_computeQueue t l).trans queue,
          (endClosing_engine t l).trans engine⟩ }
    ⟨fun _ _ hr => hr, rfl, rfl⟩
  exact kept.2

/-- A retirement leaves the part as freedAfter has it. -/
theorem retire_eq_freedAfter (slots : SlotLaws s)
    (apart : ∀ k r, s.seg k = some r → r.phase ≠ .computing → s.Outside k) :
    s.retire named = freedAfter (s.retires named) s := by
  have lanes := lanesRetired (gone := s.retires named) (ls := [0, 1, 2, 3]) slots (fun _ => rfl) (by decide)
  simp only [List.foldl_cons, List.foldl_nil, ← State.retire.eq_1] at lanes
  have every : ∀ l : Lane, l ∈ ([0, 1, 2, 3] : List Lane) := by decide
  obtain ⟨queue, engine⟩ := retire_engine (named := named) apart
  refine state_ext (retire_settings s named) (fun l => ?_) (fun k => ?_) ?_ queue engine (retire_lookup s named)
  · exact ((lanes.lane l).trans (if_pos (every l))).trans (freedAfter_lane _ s l).symm
  · rw [lanes.seg k, freedAfter_seg]
    by_cases freed : s.retires named k = true
    · obtain ⟨r, hr⟩ := retires_recorded freed
      have chained : k ∈ s.chain r.lane := (slots.mem_chain_iff hr).mpr rfl
      rw [if_pos freed, if_pos ⟨⟨r.lane, every r.lane, chained⟩, freed⟩]
    · rw [if_neg freed, if_neg fun e => freed e.2]
  · rw [lanes.freeList]
    simp [freedAfter, State.chains]

end

end Sys2Proof.Machine
end

section
/-! PROOFS. The dropping of the console's holds and pending takes: FORCE_RELEASE and the lease expiry (O35). -/

namespace Sys2Proof.Machine

/-! ### The holds dropped, before the freeing (R130, R131) -/

/-- The slots named that the console holds, or of which it waits for a take. -/
def State.heldAmong (s : State) (named : Slot → Bool) (i : Slot) : Bool := named i && s.heldByConsole i

/-- The part with the holds and pending takes of the slots named dropped, and the notice raised where there was one. -/
def State.holdsOff (s : State) (named : Slot → Bool) (notice : PartKind) (slot : Option Slot) : State :=
  { s with
    segments := Vector.ofFn fun i => if s.heldAmong named i then (s.seg i).map Segment.dropHold else s.seg i
    partNotices :=
      if ∃ i, s.heldAmong named i = true then s.partNotices.set notice.index { raised := true, latest := slot }
      else s.partNotices }

theorem owner_auto_of_ne {o : Owner} (h : o ≠ .console) : o = .auto := by
  cases o
  · rfl
  · exact absurd rfl h

theorem dropHold_eq (r : Segment) : r.dropHold =
    { r with
      owner := .auto
      takePending := false
      revision := if r.owner = .console then nextRevision r.revision else r.revision } := by
  by_cases h : r.owner = .console
  · simp only [Segment.dropHold, if_pos h, Segment.bump]
  · have auto := owner_auto_of_ne h
    simp [Segment.dropHold, auto]

section
variable {s : State} {named : Slot → Bool} {notice : PartKind} {slot : Option Slot} {i : Slot} {r : Segment}

theorem heldByConsole_of_seg (hr : s.seg i = some r) : s.heldByConsole i = r.heldByConsole := by
  simp only [State.heldByConsole, hr]

theorem heldByConsole_iff : r.heldByConsole = true ↔ r.owner = .console ∨ r.takePending = true := by
  simp [Segment.heldByConsole]

theorem heldByConsole_eq_any (s : State) (i : Slot) :
    s.heldByConsole i = (s.seg i).any fun r => decide (r.owner = .console) || r.takePending := by
  simp only [State.heldByConsole]
  split <;> rename_i h <;> rw [h] <;> rfl

theorem holdsOff_seg (s : State) (named : Slot → Bool) (notice : PartKind) (slot : Option Slot) (i : Slot) :
    (s.holdsOff named notice slot).seg i =
      if s.heldAmong named i then (s.seg i).map Segment.dropHold else s.seg i :=
  Vector.getElem_ofFn ..

section
variable (s : State) (named : Slot → Bool) (notice : PartKind) (slot : Option Slot)

theorem holdsOff_lookup : (s.holdsOff named notice slot).lookup = s.lookup := by simp only [State.holdsOff]

theorem holdsOff_lane (l : Lane) : (s.holdsOff named notice slot).lane l = s.lane l := by
  simp only [State.holdsOff, State.lane]

theorem holdsOff_chain : (s.holdsOff named notice slot).chain = s.chain :=
  funext fun l => congrArg (fun d => d.reel.chain) (holdsOff_lane s named notice slot l)

theorem holdsOff_freeList : (s.holdsOff named notice slot).freeList = s.freeList := by simp only [State.holdsOff]

theorem holdsOff_computeQueue : (s.holdsOff named notice slot).computeQueue = s.computeQueue := by
  simp only [State.holdsOff]

theorem holdsOff_profiles : (s.holdsOff named notice slot).profiles = s.profiles := by simp only [State.holdsOff]

theorem holdsOff_partNotices : (s.holdsOff named notice slot).partNotices =
    if ∃ i, s.heldAmong named i = true then s.partNotices.set notice.index { raised := true, latest := slot }
    else s.partNotices := by
  simp only [State.holdsOff]

theorem holdsOff_engine : (s.holdsOff named notice slot).engine = s.engine := by simp only [State.holdsOff]

end

/-- The dropping of holds is the records and the notice, and then the retirement of the slots that changed. -/
theorem dropHolds_eq (s : State) (named : Slot → Bool) (notice : PartKind) (slot : Option Slot) :
    s.dropHolds named notice slot = (s.holdsOff named notice slot).retire (s.heldAmong named) := by
  have any : (List.finRange 160).any (s.heldAmong named) = true ↔ ∃ i, s.heldAmong named i = true := by
    simp [List.any_eq_true]
  by_cases held : ∃ i, s.heldAmong named i = true
  · rw [State.holdsOff, if_pos held]
    exact if_pos (any.mpr held)
  · have unheld : ∀ i, s.heldAmong named i = false := fun i => Bool.eq_false_iff.mpr fun e => held ⟨i, e⟩
    rw [retire_of_none unheld, State.holdsOff, if_neg held]
    exact if_neg fun e => held (any.mp e)

theorem holdsOff_of_seg (hr : s.seg i = some r) : (s.holdsOff named notice slot).seg i =
    some (if s.heldAmong named i = true then r.dropHold else r) := by
  rw [holdsOff_seg, hr]
  split <;> rfl

theorem seg_of_holdsOff {q : Segment} (hq : (s.holdsOff named notice slot).seg i = some q) :
    ∃ r, s.seg i = some r ∧ q = if s.heldAmong named i = true then r.dropHold else r := by
  cases hr : s.seg i with
  | none => rw [holdsOff_seg, hr] at hq; split at hq <;> cases hq
  | some r =>
    rw [holdsOff_of_seg hr] at hq
    exact ⟨r, rfl, (Option.some.inj hq).symm⟩

/-- The laws of the Free List and the chains do not see an owner. -/
theorem holdsOff_slotLaws (slots : SlotLaws s) : SlotLaws (s.holdsOff named notice slot) := by
  have lanes : (fun i => ((s.holdsOff named notice slot).seg i).map Segment.lane) =
      fun i => (s.seg i).map Segment.lane := funext fun i => by
    rw [holdsOff_seg]
    split
    · cases s.seg i <;> simp [dropHold_lane]
    · rfl
  exact slots.of_slotView (by simp only [State.slotView, lanes, holdsOff_freeList, holdsOff_chain, holdsOff_lane])

/-- A hold dropped changes no phase, so only COMPUTING segments stand in the queue or the engine. -/
theorem holdsOff_apart (engine : EngineLaws s) (k : Slot) (q : Segment)
    (hq : (s.holdsOff named notice slot).seg k = some q) (phase : q.phase ≠ .computing) :
    (s.holdsOff named notice slot).Outside k := by
  obtain ⟨r, hr, rfl⟩ := seg_of_holdsOff hq
  rw [State.Outside, holdsOff_computeQueue, holdsOff_engine]
  refine (engine.outside hr fun computing => phase ?_).1
  split
  · rw [dropHold_phase, computing]
  · exact computing

/-! ### The segments that the console alone held (R155, R156) -/

theorem dropHold_unheld (s : State) (named : Slot → Bool) (notice : PartKind) (slot : Option Slot) (i : Slot)
    (r : Segment) :
    (decide (r.dropHold.life = .retiring) && !(s.holdsOff named notice slot).held i r.dropHold) =
      heldByConsoleOnly s i r := by
  rw [dropHold_eq, Bool.eq_iff_iff]
  cases phase : r.phase <;> simp [State.held, heldByConsoleOnly, Deferral.awaits, holdsOff_lookup, phase]

theorem holdsOff_retires (s : State) (named : Slot → Bool) (notice : PartKind) (slot : Option Slot) (i : Slot) :
    (s.holdsOff named notice slot).retires (s.heldAmong named) i =
      (s.heldAmong named i && (s.seg i).any (heldByConsoleOnly s i)) := by
  cases hr : s.seg i with
  | none => simp [State.retires, holdsOff_seg, hr]
  | some r =>
    by_cases changed : s.heldAmong named i = true
    · simp [State.retires, holdsOff_of_seg hr, changed, dropHold_unheld]
    · simp [State.retires, changed]

/-- What holdsDropped frees the slots of is the part with the holds dropped. -/
theorem holdsDropped_eq (s : State) (named : Slot → Bool) (notice : PartKind) (slot : Option Slot) :
    holdsDropped named notice.index slot s =
      freedAfter (fun i => s.heldAmong named i && (s.seg i).any (heldByConsoleOnly s i))
        (s.holdsOff named notice slot) := by
  have changed : ∀ i, (named i && (s.seg i).any fun r => decide (r.owner = .console) || r.takePending) =
      s.heldAmong named i := fun i => by rw [State.heldAmong, heldByConsole_eq_any]
  have records : ∀ i, ((s.seg i).map fun r => if s.heldAmong named i = true then r.dropHold else r) =
      if s.heldAmong named i = true then (s.seg i).map Segment.dropHold else s.seg i := fun i => by
    split
    · rfl
    · exact Option.map_id'
  simp only [holdsDropped, changed, ← dropHold_eq, records, State.holdsOff]

/-- The dropping of holds leaves the part as holdsDropped has it. -/
theorem dropHolds_eq_holdsDropped (slots : SlotLaws s) (engine : EngineLaws s) :
    s.dropHolds named notice slot = holdsDropped named notice.index slot s := by
  rw [dropHolds_eq, retire_eq_freedAfter (holdsOff_slotLaws slots) (holdsOff_apart engine), holdsDropped_eq]
  exact congrArg (freedAfter · _) (funext fun i => holdsOff_retires s named notice slot i)

/-! ### A LIVE segment's hold (R131) -/

/-- The hold of one LIVE segment dropped: its record and the notice, and nothing freed. -/
theorem dropHolds_of_live (hr : s.seg i = some r) (live : r.life = .live) (held : r.heldByConsole = true) :
    s.dropHolds (fun j => decide (j = i)) notice slot =
      { s.putSeg i (some r.dropHold) with
        partNotices := s.partNotices.set notice.index { raised := true, latest := slot } } := by
  have one : s.heldAmong (fun j => decide (j = i)) = fun j => decide (j = i) := funext fun j => by
    by_cases e : j = i
    · simp [State.heldAmong, e, heldByConsole_of_seg hr, held]
    · simp [State.heldAmong, e]
  have segments : (Vector.ofFn fun j => if decide (j = i) = true then (s.seg j).map Segment.dropHold else s.seg j) =
      update s.segments i fun _ => some r.dropHold := vector_ext fun j => by
    rw [Vector.getElem_ofFn]
    by_cases e : j = i
    · simp [e, hr, update_same]
    · rw [update_other _ _ _ _ e, if_neg (by simp [e])]
      rfl
  have kept : r.dropHold.life ≠ .retiring := by simp [dropHold_eq, live]
  have stays : (s.holdsOff (fun j => decide (j = i)) notice slot).retireSlot i =
      s.holdsOff (fun j => decide (j = i)) notice slot := by
    have record := holdsOff_of_seg (named := fun j => decide (j = i)) (notice := notice) (slot := slot) hr
    rw [one, if_pos (by simp)] at record
    simp only [State.retireSlot, record, kept, false_and, if_false]
  rw [dropHolds_eq, one, retire_of_held stays, State.holdsOff, one, segments, if_pos ⟨i, by simp⟩]
  rfl

/-! ### Every hold (R130, R131) -/

/-- What the dropping of every hold leaves, `k` being the kind of its notice. -/
structure AllDropped (k : Fin 5) (s t : State) : Prop where
  free : ∀ i r, t.seg i = some r → r.owner = .auto ∧ r.takePending = false
  live : ∀ i r, s.seg i = some r → r.life = .live → t.seg i = some
    { r with
      owner := .auto
      takePending := false
      revision := if r.owner = .console then nextRevision r.revision else r.revision }
  notices : ∀ j : Fin 5, t.partNotices[j] =
    if j = k ∧ ∃ i r, s.seg i = some r ∧ (r.owner = .console ∨ r.takePending = true) then
      { raised := true, latest := none }
    else s.partNotices[j]
  lookup : t.lookup = s.lookup
  computeQueue : t.computeQueue = s.computeQueue
  engine : t.engine = s.engine
  profiles : t.profiles = s.profiles

theorem heldAmong_all_iff : (∃ i, s.heldAmong (fun _ => true) i = true) ↔
    ∃ i r, s.seg i = some r ∧ (r.owner = .console ∨ r.takePending = true) := by
  simp only [State.heldAmong, Bool.true_and, heldByConsole_eq_any, Option.any_eq_true, Bool.or_eq_true,
    decide_eq_true_eq]

/-- With every hold among those dropped a record is as its own hold dropped leaves it, whether it was held or not. -/
theorem holdsOff_all_of_seg (hr : s.seg i = some r) :
    (s.holdsOff (fun _ => true) notice slot).seg i = some r.dropHold := by
  rw [holdsOff_of_seg hr, State.heldAmong, heldByConsole_of_seg hr, Bool.true_and]
  by_cases held : r.heldByConsole = true
  · rw [if_pos held]
  · obtain ⟨owner, untaken⟩ := not_or.mp (mt heldByConsole_iff.mpr held)
    have auto := owner_auto_of_ne owner
    rw [if_neg held, dropHold_eq, if_neg owner, ← auto, ← Bool.eq_false_iff.mpr untaken]

/-- The notice is raised where a segment was held, and no other (R130, R131). -/
theorem holdsOff_notice (s : State) (notice : PartKind) (j : Fin 5) :
    (s.holdsOff (fun _ => true) notice none).partNotices[j] =
      if j = notice.index ∧ ∃ i r, s.seg i = some r ∧ (r.owner = .console ∨ r.takePending = true) then
        { raised := true, latest := none }
      else s.partNotices[j] := by
  rw [holdsOff_partNotices]
  by_cases held : ∃ i r, s.seg i = some r ∧ (r.owner = .console ∨ r.takePending = true)
  · rw [if_pos (heldAmong_all_iff.mpr held)]
    by_cases e : j = notice.index
    · rw [if_pos ⟨e, held⟩, e]
      exact update_same s.partNotices notice.index fun _ => _
    · rw [if_neg fun h => e h.1]
      exact update_other s.partNotices notice.index j (fun _ => _) e
  · rw [if_neg (mt heldAmong_all_iff.mp held), if_neg fun h => held h.2]

theorem allDropped (engine : EngineLaws s) :
    AllDropped notice.index s (s.dropHolds (fun _ => true) notice none) := by
  rw [dropHolds_eq]
  have settings := retire_settings (s.holdsOff (fun _ => true) notice none) (s.heldAmong fun _ => true)
  obtain ⟨queue, begun⟩ := retire_engine (named := s.heldAmong fun _ => true)
    (holdsOff_apart (named := fun _ => true) (notice := notice) (slot := none) engine)
  exact
    { free := fun i q hq => by
        have stood := seg_of_retire hq
        obtain ⟨r, hr, -⟩ := seg_of_holdsOff stood
        rw [holdsOff_all_of_seg hr] at stood
        cases stood
        exact dropHold_free r
      live := fun i r hr live => by
        rw [← dropHold_eq]
        exact retire_live _ (holdsOff_all_of_seg hr) (by simp [dropHold_eq, live])
      notices := fun j => by
        rw [partNotices_of_settings settings]
        exact holdsOff_notice s notice j
      lookup := (retire_lookup _ _).trans (holdsOff_lookup ..)
      computeQueue := queue.trans (holdsOff_computeQueue ..)
      engine := begun.trans (holdsOff_engine ..)
      profiles := (profiles_of_settings settings).trans (holdsOff_profiles ..) }

theorem AllDropped.ok {k : Fin 5} {t : State} (h : AllDropped k s t) (link : PortName) : AllDropped k s (t.ok link) where
  free i r hr := h.free i r ((ok_seg t link [] i).symm.trans hr)
  live i r hr live := (ok_seg t link [] i).trans (h.live i r hr live)
  notices j := by rw [ok_partNotices, h.notices j]
  lookup := (ok_lookup t link []).trans h.lookup
  computeQueue := (ok_computeQueue t link []).trans h.computeQueue
  engine := (ok_engine t link []).trans h.engine
  profiles := (ok_profiles t link []).trans h.profiles

/-! ### The three commands -/

theorem exec_forceRelease_of_seg (released : s.resetHeld = false) (hr : s.seg i = some r) :
    exec (.forceRelease i.val) s = .next
      (if r.heldByConsole = true then (s.dropHolds (fun j => decide (j = i)) .forcedRelease (some i)).ok .control
       else s.refuse .control .notOwner) := by
  have one : i.val ≠ Config.allCode := by simp only [Config.allCode]; omega
  rw [exec_forceRelease, execForceRelease, unlessReset_released released, if_neg one, withSegment_of_seg _ _ hr]

theorem exec_forceRelease_all (released : s.resetHeld = false) :
    exec (.forceRelease 255) s = .next ((s.dropHolds (fun _ => true) .forcedRelease none).ok .control) := by
  rw [exec_forceRelease, execForceRelease, unlessReset_released released]
  rfl

/-- The timer is no part of what the dropping of holds reads or writes. -/
theorem holdsDropped_stopLease (s : State) (named : Slot → Bool) (notice : PartKind) (latest : Option Slot) :
    holdsDropped named notice.index latest { s with lease := none } =
      { holdsDropped named notice.index latest s with lease := none } := by
  have among : ({ s with lease := none } : State).heldAmong named = s.heldAmong named := rfl
  have only : heldByConsoleOnly { s with lease := none } = heldByConsoleOnly s := rfl
  have seg : ({ s with lease := none } : State).seg = s.seg := rfl
  have off : ({ s with lease := none } : State).holdsOff named notice latest =
      { s.holdsOff named notice latest with lease := none } := by
    simp only [State.holdsOff, among, seg]
  have freed : ∀ (gone : Slot → Bool) (u : State),
      freedAfter gone { u with lease := none } = { freedAfter gone u with lease := none } := fun _ _ => rfl
  rw [holdsDropped_eq, holdsDropped_eq, off, freed, among, only, seg]

theorem leaseExpiry_eq_holdsDropped (slots : SlotLaws s) (engine : EngineLaws s) :
    s.leaseExpiry = { holdsDropped (fun _ => true) 2 none s with lease := none } := by
  have dropped := dropHolds_eq_holdsDropped (s := { s with lease := none }) (named := fun _ => true)
    (notice := .leaseExpired) (slot := none) (slots.of_slotView rfl) (engine.congr rfl rfl rfl)
  exact dropped.trans (holdsDropped_stopLease s _ .leaseExpired none)

theorem leaseExpiry_allDropped (engine : EngineLaws s) : AllDropped 2 s s.leaseExpiry := by
  have dropped := allDropped (s := { s with lease := none }) (notice := .leaseExpired) (engine.congr rfl rfl rfl)
  exact ⟨dropped.free, dropped.live, dropped.notices, dropped.lookup, dropped.computeQueue, dropped.engine,
    dropped.profiles⟩

/-- Settles O35: one slot, ALL and the lease expiry each drop the holds they name, and the retirement frees what those held alone. -/
theorem consoleHoldsDropped : Obligations.HoldsDropped := by
  refine ⟨fun s i r released hr => ⟨fun auto untaken => ?_, fun live held => ?_⟩,
    fun s released slots engine => ⟨fun i r hr held => ?_, ?_, fun last c hc => ?_⟩, fun s released engine => ?_⟩
  · have free : ¬r.heldByConsole = true := by simp [heldByConsole_iff, auto, untaken]
    rw [exec_forceRelease_of_seg released hr, if_neg free]
  · have held := heldByConsole_iff.mpr held
    rw [exec_forceRelease_of_seg released hr, if_pos held, dropHolds_of_live hr live held, dropHold_eq]
    rfl
  · rw [exec_forceRelease_of_seg released hr, if_pos (heldByConsole_iff.mpr held),
      dropHolds_eq_holdsDropped slots engine]
    rfl
  · rw [exec_forceRelease_all released, dropHolds_eq_holdsDropped slots engine]
    rfl
  · obtain ⟨tick, expiry⟩ := exec_lease_of_last released last
    rw [leaseExpiry_eq_holdsDropped slots engine] at tick expiry
    revert c
    simp only [List.forall_mem_cons]
    exact ⟨tick, expiry, nofun⟩
  · have all := (allDropped (notice := .forcedRelease) engine).ok .control
    have expired := leaseExpiry_allDropped engine
    have stopped := leaseExpiry_lease s
    have other : (3 : Fin 5) ≠ 2 := by decide
    rintro ⟨c, k⟩ hp
    rcases List.mem_cons.mp hp with force | lease
    · cases force
      exact fun _ => ⟨_, exec_forceRelease_all released, all.free, all.live, all.notices, fun e => absurd e other,
        fun _ => (ok_lease ..).trans (dropHolds_lease ..), all.lookup, all.computeQueue, all.engine, all.profiles⟩
    · have expires : k = 2 ∧ (s.lease = some 1 → exec c s = .next s.leaseExpiry) := by
        simp only [List.mem_cons, List.not_mem_nil, or_false, Prod.mk.injEq] at lease
        rcases lease with ⟨rfl, rfl⟩ | ⟨rfl, rfl⟩
        · exact ⟨rfl, fun last => (exec_lease_of_last released last).1⟩
        · exact ⟨rfl, fun last => (exec_lease_of_last released last).2⟩
      obtain ⟨rfl, ends⟩ := expires
      exact fun last => ⟨_, ends (last rfl), expired.free, expired.live, expired.notices, fun _ => stopped,
        fun e => absurd rfl e, expired.lookup, expired.computeQueue, expired.engine, expired.profiles⟩

end

end Sys2Proof.Machine
end

section
/-! PROOFS. The lookup unit and the deferral limit: what each operation leaves of their laws, up to O58. -/

namespace Sys2Proof.Machine

/-! ### Operations that leave the lookup unit alone -/

section
variable (s : State) (l : Lane)

@[simp] theorem engineBegin_lookup : s.engineBegin.lookup = s.lookup := by rw [engineBegin_eq]

@[simp] theorem enqueue_lookup (i : Slot) : (s.enqueue i).lookup = s.lookup := by rw [enqueue_eq]

@[simp] theorem install_lookup (i : Slot) (r : Segment) (place : List Slot → List Slot) :
    (s.install l i r place).lookup = s.lookup := rfl

@[simp] theorem revise_lookup (before : State) (i : Slot) : (s.revise before i).lookup = s.lookup := by
  rcases revise_cases s before i with e | ⟨a, -, e⟩ <;> rw [e]
  rfl

/-- A fold of operations that leave the lookup unit alone leaves it alone. -/
theorem foldl_lookup {α : Type} {f : State → α → State} (h : ∀ s a, (f s a).lookup = s.lookup) (xs : List α) :
    (xs.foldl f s).lookup = s.lookup := by
  induction xs generalizing s with
  | nil => rfl
  | cons x rest ih => rw [List.foldl_cons, ih, h]

@[simp] theorem settle_lookup (i : Slot) (pitch : Nat) : (s.settle i pitch).lookup = s.lookup := by
  simp only [State.settle]
  split
  · rfl
  · split <;> simp

@[simp] theorem closeSeg_lookup (i : Slot) (last pitch : Nat) : (s.closeSeg i last pitch).lookup = s.lookup := by
  simp only [State.closeSeg]
  split
  · rfl
  · split <;> simp

@[simp] theorem closeOpen_lookup : (s.closeOpen l).lookup = s.lookup := by
  simp only [State.closeOpen]
  split <;> simp

@[simp] theorem countFrames_lookup (perforations coasts : Nat) :
    (s.countFrames l perforations coasts).lookup = s.lookup := by
  simp only [State.countFrames]
  split
  · rfl
  · split
    · split <;> simp
    · simp

@[simp] theorem accumulate_lookup (i : Slot) (acc : Accum) : (s.accumulate i acc).lookup = s.lookup := by
  simp only [State.accumulate]
  split
  · rfl
  · split <;> simp

@[simp] theorem handBack_lookup (acc : Accum) : (s.handBack l acc).lookup = s.lookup := by
  simp only [State.handBack]
  split
  · rfl
  · split <;> simp

@[simp] theorem teardownQueue_lookup : (s.teardownQueue l).lookup = s.lookup :=
  foldl_lookup s (fun t (e : Candidate) => handBack_lookup t l e.acc) (s.lane l).queue

@[simp] theorem arrive_lookup (c : Candidate) : (s.arrive l c).lookup = s.lookup := by
  simp only [State.arrive]
  split
  · rfl
  · split
    · rfl
    · split
      · rfl
      · split
        · split <;> simp
        · split <;> rfl

@[simp] theorem setDeadline_lookup : (s.setDeadline l).lookup = s.lookup := rfl

@[simp] theorem loadLamp_lookup : (s.loadLamp l).lookup = s.lookup := by
  simp only [State.loadLamp]
  split <;> rfl

theorem allocate_lookup {s t : State} {l : Lane} {i : Slot} (h : s.allocate l = some (i, t)) : t.lookup = s.lookup := by
  obtain ⟨rest, -, -, rfl⟩ := allocate_eq_some.mp h
  rfl

theorem split_lookup {s t : State} {l : Lane} {f : Nat} {position : Int} {kind : CandidateKind} {span : Nat}
    {acc : Accum} (h : s.split l f position kind span acc = some t) : t.lookup = s.lookup := by
  simp only [State.split] at h
  split at h
  · rename_i allocated
    cases h
    split <;> simp [allocate_lookup allocated]
  · cases h

@[simp] theorem stopRegradeAt_lookup (i : Slot) : (s.stopRegradeAt i).lookup = s.lookup := by
  simp only [State.stopRegradeAt]
  split
  · rfl
  · split <;> rfl

@[simp] theorem beginClosing_lookup : (s.beginClosing l).lookup = s.lookup := by
  simp only [State.beginClosing, onLane_lookup]
  rw [foldl_lookup _ fun t i => onSeg_lookup t i _, foldl_lookup _ fun t i => revise_lookup t s i,
    foldl_lookup _ stopRegradeAt_lookup]
  simp

@[simp] theorem dropHolds_lookup (named : Slot → Bool) (notice : PartKind) (slot : Option Slot) :
    (s.dropHolds named notice slot).lookup = s.lookup := by
  simp only [State.dropHolds]
  split <;> simp

end

/-! ### What an event makes of an entry (R138, R139, R148) -/

/-- What an event makes of entry `e` fits the laws: the entry with its remaining ticks kept, or an answer with a slot for each code of the layout. -/
def Disposal.Fits (layout : List FieldCode) (e : Deferral) : Disposal → Prop
  | .keep d => d.remaining = e.remaining
  | .answer a => a.slots.length = layout.length

section
variable (s : State) (tag : Nat) (l : Lane) (f : Nat) (status : AnswerStatus)

@[simp] theorem plainAnswer_slots_length : (s.plainAnswer tag l f status).slots.length = s.lookup.layout.length :=
  List.length_map _

@[simp] theorem answerFrom_slots_length (i : Slot) (r : Segment) :
    (s.answerFrom tag l f status i r).slots.length = s.lookup.layout.length := List.length_map _

@[simp] theorem provisionalAnswer_slots_length (e : Deferral) :
    (s.provisionalAnswer e).1.slots.length = s.lookup.layout.length := by
  simp only [State.provisionalAnswer]
  split
  · exact answerFrom_slots_length ..
  · exact plainAnswer_slots_length ..

theorem recheckClosing_fits (e : Deferral) : (s.recheckClosing e).Fits s.lookup.layout e := by
  simp only [State.recheckClosing]
  split
  · split
    · exact answerFrom_slots_length ..
    · rfl
  · rfl

theorem recheckEntry_fits (e : Deferral) : (s.recheckEntry e).Fits s.lookup.layout e := by
  simp only [State.recheckEntry]
  split
  · exact recheckClosing_fits s e
  · split
    · exact plainAnswer_slots_length ..
    · exact answerFrom_slots_length ..
    · rfl

end

/-! ### Writes that the laws pass over -/

section
variable {s t : State} {l : Lane}

/-- The laws read the lookup unit and the deferral limit. -/
theorem LookupLaws.congr (h : LookupLaws s) (lookup : t.lookup = s.lookup) (limit : t.limit = s.limit) :
    LookupLaws t where
  deferred := by rw [lookup]; exact h.deferred
  waiting := by rw [lookup]; exact h.waiting
  limit := by rw [limit]; exact h.limit
  reserved := by rw [State.reservations, lookup]; exact h.reserved
  layout := by rw [lookup]; exact h.layout
  slots := by rw [lookup]; exact h.slots
  disabled := by rw [lookup]; exact h.disabled

theorem limit_of_settings (settings : t.settings = s.settings) : t.limit = s.limit := congrArg Settings.limit settings

theorem LookupLaws.of_settings (h : LookupLaws s) (lookup : t.lookup = s.lookup) (settings : t.settings = s.settings) :
    LookupLaws t := h.congr lookup (limit_of_settings settings)

theorem LookupLaws.of_lawView (hv : t.lawView = s.lawView) (h : LookupLaws s) : LookupLaws t := by
  have enabled : t.lookup.enabled = s.lookup.enabled := congrArg LawView.enabled hv
  have layout : t.lookup.layout = s.lookup.layout := congrArg LawView.layout hv
  have deferred : t.lookup.deferred = s.lookup.deferred := congrArg LawView.deferred hv
  have answers : t.lookup.answers = s.lookup.answers := congrArg LawView.answers hv
  have limit : t.limit = s.limit := congrArg LawView.limit hv
  constructor
  · rw [deferred]; exact h.deferred
  · rw [deferred]; exact h.waiting
  · rw [limit]; exact h.limit
  · rw [State.reservations, deferred, answers]; exact h.reserved
  · rw [layout]; exact h.layout
  · rw [answers, layout]; exact h.slots
  · rw [enabled, deferred, answers]; exact h.disabled

theorem LookupLaws.onLane (h : LookupLaws s) (l : Lane) (f : LaneState → LaneState) : LookupLaws (s.onLane l f) :=
  h.congr rfl rfl

theorem LookupLaws.raise (h : LookupLaws s) (l : Lane) (k : LaneKind) (o : Option Slot) : LookupLaws (s.raise l k o) :=
  h.congr rfl rfl

theorem LookupLaws.putSeg (h : LookupLaws s) (i : Slot) (r : Option Segment) : LookupLaws (s.putSeg i r) := h.congr rfl rfl

theorem LookupLaws.withSegments (h : LookupLaws s) (v : Vector (Option Segment) 160) :
    LookupLaws { s with segments := v } := h.congr rfl rfl

theorem LookupLaws.raisePart (h : LookupLaws s) (k : PartKind) (o : Option Slot) : LookupLaws (s.raisePart k o) :=
  h.congr rfl rfl

theorem LookupLaws.setStatus (h : LookupLaws s) (x : LinkStatus) : LookupLaws (s.setStatus x) :=
  h.of_lawView (setStatus_lawView s x)

theorem LookupLaws.engineBegin (h : LookupLaws s) : LookupLaws s.engineBegin :=
  h.of_settings (engineBegin_lookup s) (engineBegin_settings s)

theorem LookupLaws.freeSlot (h : LookupLaws s) (i : Slot) : LookupLaws (s.freeSlot i) :=
  h.of_settings (freeSlot_lookup s i) (freeSlot_settings s i)

theorem LookupLaws.retire (h : LookupLaws s) (named : Slot → Bool) : LookupLaws (s.retire named) :=
  h.of_settings (retire_lookup s named) (retire_settings s named)

theorem LookupLaws.arrive (h : LookupLaws s) (l : Lane) (c : Candidate) : LookupLaws (s.arrive l c) :=
  h.of_settings (arrive_lookup s l c) (arrive_settings s l c)

/-! ### Writes of the Deferred Set and the Answer Queue -/

/-- The entries that stay are those that the event made of entries there were. -/
theorem mem_dispose_deferred {deal : Deferral → Disposal} {d : Deferral} :
    d ∈ (s.dispose deal).lookup.deferred ↔ ∃ e ∈ s.lookup.deferred, deal e = .keep d := by
  have kept : ∀ x : Disposal, x.kept = some d ↔ x = .keep d := fun x => by cases x <;> simp [Disposal.kept]
  simp only [dispose_eq, List.filterMap_map, List.mem_filterMap, Function.comp_apply, kept]

theorem mem_dispose_made {deal : Deferral → Disposal} {es : List Deferral} {a : Answer} :
    a ∈ (es.map deal).filterMap Disposal.made ↔ ∃ e ∈ es, deal e = .answer a := by
  have made : ∀ x : Disposal, x.made = some a ↔ x = .answer a := fun x => by cases x <;> simp [Disposal.made]
  simp only [List.filterMap_map, List.mem_filterMap, Function.comp_apply, made]

/-- An event that deals with the Deferred Set keeps the laws, where what it makes of each entry fits them. -/
theorem LookupLaws.dispose (h : LookupLaws s) {deal : Deferral → Disposal}
    (fits : ∀ e, (deal e).Fits s.lookup.layout e) : LookupLaws (s.dispose deal) where
  deferred := by
    have fewer := List.length_filterMap_le Disposal.kept (s.lookup.deferred.map deal)
    rw [List.length_map] at fewer
    exact Nat.le_trans fewer h.deferred
  waiting d hd := by
    obtain ⟨e, he, made⟩ := mem_dispose_deferred.mp hd
    have ticks : d.remaining = e.remaining := by
      have fit := fits e
      rwa [made] at fit
    rw [ticks]
    exact h.waiting e he
  limit := h.limit
  reserved := by rw [dispose_reservations]; exact h.reserved
  layout := h.layout
  slots a ha := by
    rcases List.mem_append.mp ha with queued | made
    · exact h.slots a queued
    · obtain ⟨e, -, made⟩ := mem_dispose_made.mp made
      have fit := fits e
      rwa [made] at fit
  disabled off := by
    obtain ⟨deferred, answers⟩ := h.disabled off
    simp [dispose_eq, deferred, answers]

theorem LookupLaws.recheck (h : LookupLaws s) (concerned : Deferral → Bool) : LookupLaws (s.recheck concerned) :=
  h.dispose fun e => by
    split
    · exact recheckEntry_fits s e
    · rfl

/-- A write of the entries and answers keeps the laws where both fit them and the link is enabled. -/
theorem LookupLaws.withWaiting (h : LookupLaws s) {deferred : List Deferral} {answers : List Answer}
    (entries : deferred.length ≤ Config.deferredMax) (ticks : ∀ e ∈ deferred, 1 ≤ e.remaining ∧ e.remaining ≤ 255)
    (reserved : answers.length + deferred.length ≤ Config.reservationMax)
    (slots : ∀ a ∈ answers, a.slots.length = s.lookup.layout.length)
    (disabled : s.lookup.enabled = false → deferred = [] ∧ answers = []) :
    LookupLaws (s.onLookup fun u => { u with deferred := deferred, answers := answers }) :=
  ⟨entries, ticks, h.limit, reserved, h.layout, slots, disabled⟩

/-! ### The film side (R44, R59, R89) -/

theorem LookupLaws.split {f : Nat} {position : Int} {kind : CandidateKind} {span : Nat} {acc : Accum} (h : LookupLaws s)
    (made : s.split l f position kind span acc = some t) : LookupLaws t :=
  h.of_settings (split_lookup made) (split_settings s l made)

theorem LookupLaws.firstLock (h : LookupLaws s) (l : Lane) (a c : Int) : LookupLaws (s.firstLock l a c) := by
  simp only [State.firstLock]
  split
  · rename_i allocated _
    have locked := h.of_settings (allocate_lookup allocated) (allocate_settings s l allocated)
    exact LookupLaws.recheck (locked.of_settings (by simp) (by simp)) _
  · exact h.of_lawView (by simp)

/-- The end of a reel deals with the Deferred Set within the laws (R144). -/
theorem LookupLaws.endDeferrals (h : LookupLaws s) (ahead rechecked : Deferral → Prop) [DecidablePred ahead]
    [DecidablePred rechecked] : LookupLaws (s.dispose fun e =>
      if ahead e then .answer (s.plainAnswer e.tag e.lane e.frame .outOfRange)
      else if rechecked e then s.recheckEntry e else .keep e) :=
  h.dispose fun e => by
    split
    · exact plainAnswer_slots_length s e.tag e.lane e.frame _
    · split
      · exact recheckEntry_fits s e
      · rfl

theorem LookupLaws.enterEnded (h : LookupLaws s) (l : Lane) : LookupLaws (s.enterEnded l) := by
  have closed : LookupLaws ((s.teardownQueue l).closeOpen l) := h.of_settings (by simp) (by simp)
  simp only [State.enterEnded]
  refine LookupLaws.endDeferrals (LookupLaws.raise (LookupLaws.onLane ?_ l _) l .runout _)
    (fun e => e.lane = l ∧ e.reason = .ahead) _
  split
  · exact closed.of_settings (revise_lookup ..) (revise_settings ..)
  · exact closed

/-- The acts of the film side keep the laws of the lookup unit: they write its entries and answers by re-checks alone. -/
theorem lookupLaws_keptByFilm : KeptByFilm LookupLaws fun _ => True where
  unseen := LookupLaws.of_lawView
  sublist _ _ := trivial
  counted _ := trivial
  fresh _ := trivial
  queued _ _ := trivial
  setQueue _ _ h _ := h.congr rfl rfl
  handBack l acc h := h.of_settings (handBack_lookup _ l acc) (handBack_settings _ l acc)
  split h _ made := h.split made
  countFrames l perforations coasts h :=
    h.of_settings (countFrames_lookup _ l perforations coasts) (countFrames_settings _ l perforations coasts)
  revise i _ h := h.of_settings (revise_lookup _ _ i) (revise_settings _ _ i)
  recheck concerned h := h.recheck concerned
  arrive l c h _ := h.arrive l c
  firstLock a c h _ := h.firstLock _ a c
  enterEnded l h := h.enterEnded l

/-! ### Reels, the console and the engine (R33, R107, R118, R126, R152) -/

theorem LookupLaws.closeDeferrals (h : LookupLaws s) (l : Lane) : LookupLaws (s.closeDeferrals l) :=
  h.dispose fun e => by
    split
    · rfl
    · split
      · exact recheckClosing_fits s e
      · exact plainAnswer_slots_length s e.tag e.lane e.frame _

theorem LookupLaws.closeReel (h : LookupLaws s) (l : Lane) : LookupLaws (s.closeReel l) := by
  have begun : LookupLaws (s.beginClosing l) := h.of_settings (beginClosing_lookup s l) (beginClosing_settings s l)
  have freed := (begun.closeDeferrals l).of_settings (retireChain_lookup _ (fun _ => true) l) (retireChain_settings ..)
  exact freed.of_settings (endClosing_lookup _ l) (endClosing_settings _ l)

theorem LookupLaws.laneReset (h : LookupLaws s) (l : Lane) : LookupLaws (s.laneReset l) := by
  have answered : LookupLaws (s.dispose fun e =>
      if e.lane = l then .answer (s.plainAnswer e.tag e.lane e.frame .closed) else .keep e) := h.dispose fun e => by
    split
    · exact plainAnswer_slots_length s e.tag e.lane e.frame _
    · rfl
  have freed := List.foldlRecOn (s.chain l) State.freeSlot answered fun _ ht i _ => ht.freeSlot i
  exact (freed.onLane l LaneState.cleared).engineBegin

theorem LookupLaws.dropHolds (h : LookupLaws s) (named : Slot → Bool) (notice : PartKind) (slot : Option Slot) :
    LookupLaws (s.dropHolds named notice slot) := by
  simp only [State.dropHolds]
  split
  · exact ((h.withSegments _).raisePart notice slot).retire _
  · exact h.withSegments _

theorem LookupLaws.takeSegment (h : LookupLaws s) (i : Slot) (r : Segment) : LookupLaws (s.takeSegment i r) := by
  simp only [State.takeSegment]
  split
  · exact (h.putSeg i _).of_lawView (ok_lawView ..)
  · exact (h.putSeg i _).of_lawView (ok_lawView ..)
  · exact ((h.putSeg i _).raise _ _ _).of_lawView (ok_lawView ..)
  · split
    · exact (h.putSeg i _).of_lawView (reply_lawView ..)
    · have unqueued : LookupLaws { s.putSeg i (some r.takenQueued) with computeQueue := s.computeQueue.erase i } :=
        (h.putSeg i (some r.takenQueued)).congr rfl rfl
      have rechecked : LookupLaws (s.takeQueued i r) := (unqueued.raise _ _ _).recheck _
      exact rechecked.of_lawView (ok_lawView ..)

theorem LookupLaws.cutSegment {j : Slot} (h : LookupLaws s) (allocated : s.allocate l = some (j, t)) (i : Slot)
    (a : Segment) (frame : Nat) : LookupLaws (t.cutSegment i j a frame) := by
  have lawful := h.of_settings (allocate_lookup allocated) (allocate_settings s l allocated)
  simp only [State.cutSegment]
  refine LookupLaws.recheck ?_ _
  have installed : ∀ (r : Option Segment) (b : Segment) place, LookupLaws ((t.putSeg i r).install a.lane j b place) :=
    fun r b place => ((lawful.putSeg i r).putSeg j (some b)).onLane _ _
  split
  · exact (installed _ _ _).onLane _ _
  · exact installed _ _ _

theorem LookupLaws.complete (h : LookupLaws s) : LookupLaws s.complete := by
  have next : ∀ u : State, LookupLaws u → LookupLaws { u with engine := none }.engineBegin :=
    fun u hu => LookupLaws.engineBegin (hu.congr (t := { u with engine := none }) rfl rfl)
  simp only [State.complete]
  split
  · exact h
  · split
    · exact next s h
    · rename_i i _ _ r _
      have written := h.putSeg i (some (r.completed (s.profile r.profile)))
      exact LookupLaws.retire ((next _ (written.of_lawView (completionNotices_lawView _ i r))).recheck _) _

theorem LookupLaws.densityWatch (h : LookupLaws s) (l : Lane) (f : Nat) (mean : Rgb Nat) :
    LookupLaws (s.densityWatch l f mean) := by
  simp only [State.densityWatch]
  split
  · exact h
  · split
    · split
      · exact h
      · split
        · exact h.arrive l _
        · exact h
    · exact h

theorem LookupLaws.routeSummary (h : LookupLaws s) (l : Lane) (f : Nat) (black white mean : Rgb Nat) :
    LookupLaws (s.routeSummary l f black white mean) := by
  simp only [State.routeSummary, State.addToSegment]
  split
  · exact h.congr rfl rfl
  · split
    · split
      · exact h.of_settings (by simp) (by simp)
      · exact h
    · exact h

theorem LookupLaws.takeSummary (h : LookupLaws s) (lane frame : Nat) (black white mean : Rgb Nat) :
    LookupLaws (s.takeSummary lane frame black white mean) := by
  simp only [State.takeSummary]
  split
  · exact h.setStatus _
  · split
    · exact h.setStatus _
    · split
      · exact h.setStatus _
      · split
        · exact h.setStatus _
        · exact ((h.densityWatch _ _ _).routeSummary _ _ _ _ _).setStatus _

/-! ### Lookups and answers (R135, R138, R147) -/

theorem LookupLaws.pushAnswer (h : LookupLaws s) {a : Answer} (slots : a.slots.length = s.lookup.layout.length)
    (enabled : s.lookup.enabled = true) (room : s.reservations < Config.reservationMax) :
    LookupLaws (s.pushAnswer a) := by
  refine h.withWaiting h.deferred h.waiting ?_ (fun b hb => ?_) fun off => ?_
  · simp only [State.reservations] at room
    simp only [List.length_append, List.length_singleton]
    omega
  · rcases List.mem_append.mp hb with queued | made
    · exact h.slots b queued
    · rw [List.mem_singleton.mp made]; exact slots
  · rw [enabled] at off; cases off

/-- A lookup that is placed takes a reservation that the tests of R135 found free. -/
theorem LookupLaws.placeLookup (h : LookupLaws s) (tag : Nat) (l : Lane) (f : Nat) (enabled : s.lookup.enabled = true)
    (room : s.reservations < Config.reservationMax) : LookupLaws (s.placeLookup tag l f) := by
  simp only [State.placeLookup]
  split
  · exact h.pushAnswer (plainAnswer_slots_length ..) enabled room
  · exact h.pushAnswer (answerFrom_slots_length ..) enabled room
  · split
    · exact h.pushAnswer (plainAnswer_slots_length ..) enabled room
    · rename_i few
      refine h.withWaiting ?_ (fun e he => ?_) ?_ h.slots fun off => ?_
      · simp only [List.length_append, List.length_singleton]
        omega
      · rcases List.mem_append.mp he with waits | new
        · exact h.waiting e waits
        · rw [List.mem_singleton.mp new]; exact h.limit
      · simp only [State.reservations] at room
        simp only [List.length_append, List.length_singleton]
        omega
      · rw [enabled] at off; cases off

theorem LookupLaws.takeLookup (h : LookupLaws s) (tag lane frame : Nat) : LookupLaws (s.takeLookup tag lane frame) := by
  simp only [State.takeLookup]
  split
  · exact h.setStatus _
  · rename_i enabled
    split
    · exact h.setStatus _
    · split
      · exact h.setStatus _
      · split
        · exact h.setStatus _
        · rename_i room
          exact (h.placeLookup _ _ _ (by simpa using enabled) (Nat.lt_of_not_le room)).setStatus _

/-- Two writes of the lookup unit that leave the same entries, answers, layout and mark are not told apart by the laws. -/
theorem onLookup_lawView (s : State) {f g : LookupUnit → LookupUnit} (enabled : (f s.lookup).enabled = (g s.lookup).enabled)
    (layout : (f s.lookup).layout = (g s.lookup).layout) (deferred : (f s.lookup).deferred = (g s.lookup).deferred)
    (answers : (f s.lookup).answers = (g s.lookup).answers) : (s.onLookup f).lawView = (s.onLookup g).lawView := by
  simp only [State.lawView, onLookup_lookup, enabled, layout, deferred, answers]
  rfl

/-- A delivery takes the head of the Answer Queue or nothing. -/
theorem deliver_answers_sublist (u : LookupUnit) (o : LookupOpening) (count : Nat) :
    (u.deliver o count).answers.Sublist u.answers := by
  simp only [LookupUnit.deliver]
  split
  · exact List.tail_sublist _
  · exact List.Sublist.refl _

theorem LookupLaws.deliver (h : LookupLaws s) (o : LookupOpening) (count : Nat) :
    LookupLaws (s.onLookup fun u => u.deliver o count) := by
  have left := deliver_answers_sublist s.lookup o count
  have answered : LookupLaws (s.onLookup fun u =>
      { u with deferred := s.lookup.deferred, answers := (s.lookup.deliver o count).answers }) := by
    refine h.withWaiting h.deferred h.waiting ?_ (fun a ha => h.slots a (left.subset ha)) fun off => ?_
    · exact Nat.le_trans (Nat.add_le_add_right left.length_le _) h.reserved
    · obtain ⟨deferred, answers⟩ := h.disabled off
      exact ⟨deferred, List.sublist_nil.mp (answers ▸ left)⟩
  exact answered.of_lawView (onLookup_lawView s rfl rfl rfl rfl)

/-! ### Expiry (R141, R142) -/

/-- The part with an entry answered PROVISIONAL and PROVISIONAL_ISSUED raised, before the freeing of the segment that it awaited (R142). -/
def State.answeredAt (s : State) (e : Deferral) : State :=
  (s.onLookup fun u =>
    { u with deferred := u.deferred.erase e, answers := u.answers ++ [(s.provisionalAnswer e).1] }).raisePart
      .provisionalIssued (s.provisionalAnswer e).2

/-- An expiry is the answer and its notice, and then the retirement of the segment awaited (R142, R156). -/
theorem expireEntry_eq (s : State) (e : Deferral) : s.expireEntry e = (s.answeredAt e).retire fun i => e.awaits i := by
  rw [State.expireEntry, State.answeredAt]

theorem expireEntry_limit (s : State) (e : Deferral) : (s.expireEntry e).limit = s.limit := by
  rw [expireEntry_eq]
  exact (limit_of_settings (retire_settings (s.answeredAt e) _)).trans rfl

/-- What a number of expiries leave of the lookup unit beside its entries: one answer more for each, with a slot for each code of the layout. -/
structure Answering (n : Nat) (s t : State) : Prop where
  enabled : t.lookup.enabled = s.lookup.enabled
  layout : t.lookup.layout = s.lookup.layout
  limit : t.limit = s.limit
  answers : ∃ made, t.lookup.answers = s.lookup.answers ++ made ∧ made.length = n ∧
    ∀ a ∈ made, a.slots.length = s.lookup.layout.length

theorem Answering.expireEntry {n : Nat} {e : Deferral} (h : Answering n (s.expireEntry e) t) : Answering (n + 1) s t := by
  have first := expireEntry_lookup s e
  obtain ⟨made, answers, count, slots⟩ := h.answers
  rw [first] at answers slots
  exact
    { enabled := h.enabled.trans (by rw [first])
      layout := h.layout.trans (by rw [first])
      limit := h.limit.trans (expireEntry_limit s e)
      answers := ⟨(s.provisionalAnswer e).1 :: made, answers.trans (List.append_assoc ..), by rw [List.length_cons, count],
        List.forall_mem_cons.mpr ⟨provisionalAnswer_slots_length s e, slots⟩⟩ }

theorem expireEach_cons (s : State) (e : Deferral) (rest : List Deferral) :
    s.expireEach (e :: rest) = (s.expireEntry e).expireEach rest := by
  simp only [State.expireEach, List.foldl_cons]

theorem expireEach_answering (due : List Deferral) (s : State) : Answering due.length s (s.expireEach due) := by
  induction due generalizing s with
  | nil => exact ⟨rfl, rfl, rfl, [], (List.append_nil _).symm, rfl, nofun⟩
  | cons e rest ih =>
    rw [expireEach_cons]
    exact (ih (s.expireEntry e)).expireEntry

/-- Entries with more than one tick left wait on with one less, and those at their last tick have become answers. -/
theorem LookupLaws.countDown {due : Nat} (h : LookupLaws s) (answering : Answering due s t)
    (left : t.lookup.deferred = s.lookup.deferred.filter fun e => !e.lastTick)
    (all : due + t.lookup.deferred.length = s.lookup.deferred.length) : LookupLaws t.countDown := by
  obtain ⟨enabled, layout, limit, made, answers, count, slots⟩ := answering
  have entryCount : t.countDown.lookup.deferred.length = t.lookup.deferred.length := List.length_map _
  constructor
  · have := h.deferred
    omega
  · intro d hd
    obtain ⟨e, he, rfl⟩ := List.mem_map.mp hd
    obtain ⟨waits, more⟩ := List.mem_filter.mp (left ▸ he)
    obtain ⟨low, high⟩ := h.waiting e waits
    simp only [Deferral.lastTick, Bool.not_eq_true', decide_eq_false_iff_not] at more
    exact ⟨by dsimp only; omega, by dsimp only; omega⟩
  · exact limit ▸ h.limit
  · have := h.reserved
    have total : t.countDown.lookup.answers.length = s.lookup.answers.length + due := by
      rw [← count, ← List.length_append, ← answers]
      rfl
    simp only [State.reservations] at this ⊢
    omega
  · exact layout ▸ h.layout
  · intro a ha
    refine Eq.trans ?_ (congrArg List.length layout).symm
    exact (List.mem_append.mp (answers ▸ ha)).elim (h.slots a) (slots a)
  · intro off
    obtain ⟨noEntry, noAnswer⟩ := h.disabled (enabled.symm.trans off)
    rw [noEntry, List.length_nil] at all
    have none : made = [] := List.length_eq_zero_iff.mp (by omega)
    have emptied : t.countDown.lookup.answers = [] := answers.trans (by rw [noAnswer, none]; rfl)
    exact ⟨List.length_eq_zero_iff.mp (by omega), emptied⟩

theorem LookupLaws.deferralTick (h : LookupLaws s) : LookupLaws s.deferralTick := by
  have left := expireEach_deferred s
  refine h.countDown (expireEach_answering _ s) left ?_
  rw [left]
  have parts := List.length_eq_countP_add_countP Deferral.lastTick (l := s.lookup.deferred)
  simpa only [List.countP_eq_length_filter, Bool.not_eq_true, Bool.decide_eq_false] using parts.symm

theorem LookupLaws.expireEntry {e : Deferral} (h : LookupLaws s) (he : e ∈ s.lookup.deferred) :
    LookupLaws (s.expireEntry e) := by
  have one := List.length_erase_of_mem he
  have some := List.length_pos_of_mem he
  have answered : LookupLaws (s.onLookup fun u =>
      { u with deferred := s.lookup.deferred.erase e, answers := s.lookup.answers ++ [(s.provisionalAnswer e).1] }) := by
    refine h.withWaiting ?_ (fun d hd => h.waiting d (List.mem_of_mem_erase hd)) ?_ (fun a ha => ?_) fun off => ?_
    · have := h.deferred
      omega
    · have := h.reserved
      simp only [State.reservations] at this
      simp only [List.length_append, List.length_singleton]
      omega
    · rcases List.mem_append.mp ha with queued | made
      · exact h.slots a queued
      · rw [List.mem_singleton.mp made]; exact provisionalAnswer_slots_length s e
    · rw [(h.disabled off).1] at he; cases he
  exact LookupLaws.retire (answered.of_lawView (raisePart_lawView _ _ _)) _

theorem LookupLaws.expire (h : LookupLaws s) : LookupLaws s.expire := by
  simp only [State.expire]
  split
  · exact h
  · rename_i found; exact h.expireEntry (List.mem_of_find?_eq_some found)

/-! ### The settings of the unit (R149, R150, R177) -/

/-- With no entry and no answer left the laws ask for the limit and the layout alone. -/
theorem LookupLaws.emptied (h : LookupLaws s) (deferred : t.lookup.deferred = []) (answers : t.lookup.answers = [])
    (layout : t.lookup.layout = s.lookup.layout) (limit : 1 ≤ t.limit ∧ t.limit ≤ 255) : LookupLaws t where
  deferred := by rw [deferred]; exact Nat.zero_le _
  waiting := by rw [deferred]; exact fun _ he => absurd he List.not_mem_nil
  limit := limit
  reserved := by rw [State.reservations, deferred, answers]; exact Nat.zero_le _
  layout := by rw [layout]; exact h.layout
  slots := by rw [answers]; exact fun _ ha => absurd ha List.not_mem_nil
  disabled _ := ⟨deferred, answers⟩

theorem LookupLaws.disableLink (h : LookupLaws s) : LookupLaws s.disableLink :=
  LookupLaws.retire
    (h.emptied (t := s.onLookup fun u => { u with enabled := false, deferred := [], answers := [], status := .none })
      rfl rfl rfl h.limit) _

/-- A disabled link holds no answer that a new layout could misfit. -/
theorem LookupLaws.relayout (h : LookupLaws s) {layout : List FieldCode} (off : s.lookup.enabled = false)
    (some : layout ≠ []) (few : layout.length ≤ Config.layoutMax) :
    LookupLaws (s.onLookup fun u => { u with layout := layout }) := by
  have noAnswer := (h.disabled off).2
  refine ⟨h.deferred, h.waiting, h.limit, h.reserved, ⟨List.length_pos_iff.mpr some, few⟩, fun a ha => ?_, h.disabled⟩
  rw [onLookup_lookup, noAnswer] at ha
  cases ha

theorem LookupLaws.enable (h : LookupLaws s) (enable : Bool) (order : ByteOrder) (off : s.lookup.enabled = false) :
    LookupLaws (s.onLookup fun u => { u with order := order, enabled := enable }) :=
  ⟨h.deferred, h.waiting, h.limit, h.reserved, h.layout, h.slots, fun _ => h.disabled off⟩

theorem LookupLaws.leaseExpiry (h : LookupLaws s) : LookupLaws s.leaseExpiry := by
  have stopped : LookupLaws { s with lease := none } := h.congr rfl rfl
  exact stopped.dropHolds _ _ _

theorem LookupLaws.leaseTick (h : LookupLaws s) : LookupLaws s.leaseTick := by
  simp only [State.leaseTick]
  split
  · exact h
  · split
    · exact h.leaseExpiry
    · exact h.congr rfl rfl

end

/-! ### Every step -/

/-- The effects of the commands keep the laws of the lookup unit. -/
theorem lookupLaws_keptByEffects : KeptByEffects LookupLaws where
  unseen := LookupLaws.of_lawView
  powerOn := reset_lookupLaws
  partReset h := h.emptied rfl rfl rfl reset_lookupLaws.limit
  load _ h _ := h.onLane _ _
  restate _ h _ _ _ := h.onLane _ _
  unloadLoaded h _ := (h.onLane _ _).raise _ _ _
  closeReel h _ := h.closeReel _
  laneReset l h := h.laneReset l
  relayout _ h off some few := h.relayout off some few
  enable enable order h off := h.enable enable order off
  disableLink h := h.disableLink
  setTimers _ _ _ h low high _ := ⟨h.deferred, h.waiting, ⟨low, high⟩, h.reserved, h.layout, h.slots, h.disabled⟩
  reloadLease h := h.congr rfl rfl
  dropHolds named notice slot h := h.dropHolds named notice slot
  takeSegment h _ _ _ _ := h.takeSegment _ _
  release h _ _ := ((h.putSeg _ _).raisePart _ _).retire _
  consoleWrite _ _ _ _ _ _ _ _ h _ _ := h.putSeg _ _
  cut h _ _ _ _ allocated := h.cutSegment allocated _ _ _
  join h _ _ _ _ _ _ := ((h.putSeg _ _).freeSlot _).recheck _
  regrade h _ _ _ _ := h.putSeg _ _
  deliver o count h := h.deliver o count
  takeLookup tag lane frame h := h.takeLookup tag lane frame
  takeSummary lane frame black white mean h := h.takeSummary lane frame black white mean
  perfWord l position strength h := lookupLaws_keptByFilm.perfWord_kept h l position strength
  spliceWord l position kind h := lookupLaws_keptByFilm.spliceWord_kept h l position kind
  travelWord l position h := lookupLaws_keptByFilm.travelWord_kept h l position
  runoutWord l position h := lookupLaws_keptByFilm.runoutWord_kept h l position
  complete h := h.complete
  deferralTick h := h.deferralTick
  expire h := h.expire
  leaseTick h := h.leaseTick
  leaseExpiry h := h.leaseExpiry

/-- Settles O58: a re-check and an expiry keep the reservation count, a LOOKUP takes a free reservation, and no entry outlives its last tick. -/
theorem lookupLawsKept : Obligations.LookupLawsKept :=
  fun _ t h next => lookupLaws_keptByEffects.step_kept h t next

end Sys2Proof.Machine
end

section
/-! PROOFS. The field codes above 16: FieldCode.ofCode reads each of them as the code NONE, so no layout is refused for one (O22, O41). -/

namespace Sys2Proof.Machine

/-- The last row of FieldCode.ofCode stands in the namespace of FieldCode, so its `none` is the field code NONE and not an absent value. -/
theorem fieldCode_ofCode_beyond {n : Nat} (h : 16 < n) : FieldCode.ofCode n = some FieldCode.none := by
  unfold FieldCode.ofCode
  split
  case h_18 => rfl
  all_goals omega

theorem fieldCode_ofCode_isSome (n : Nat) : ∃ c, FieldCode.ofCode n = some c := by
  by_cases beyond : 16 < n
  · exact ⟨_, fieldCode_ofCode_beyond beyond⟩
  · have known : ∀ k : Fin 17, (FieldCode.ofCode k.val).isSome = true := by decide
    exact Option.isSome_iff_exists.mp (known ⟨n, by omega⟩)

/-- So every list of codes is read whole. -/
theorem layoutOf_isOk (position : Nat) (codes : List Nat) : ∃ layout, layoutOf position codes = .ok layout := by
  induction codes generalizing position with
  | nil => exact ⟨[], rfl⟩
  | cons n rest ih =>
    obtain ⟨c, read⟩ := fieldCode_ofCode_isSome n
    obtain ⟨cs, later⟩ := ih (position + 1)
    exact ⟨c :: cs, by simp only [layoutOf, read, later]; rfl⟩

/-- With the link disabled a list of 1 to 12 codes becomes the layout, whatever its codes are. -/
theorem exec_setLayout_taken {s : State} {codes : List Nat} (released : s.resetHeld = false)
    (disabled : s.lookup.enabled = false) (some : 1 ≤ codes.length) (few : codes.length ≤ 12) :
    ∃ layout : List FieldCode, layout.length = codes.length ∧
      exec (.setLayout codes) s = .next ((s.onLookup fun u => { u with layout := layout }).ok .control) := by
  have inRange : ¬(codes = [] ∨ Config.layoutMax < codes.length) :=
    not_or.mpr ⟨List.ne_nil_of_length_pos some, Nat.not_lt.mpr few⟩
  obtain ⟨layout, read⟩ := layoutOf_isOk 1 codes
  have runs : exec (.setLayout codes) s = execSetLayout codes s := rfl
  refine ⟨layout, layoutOf_length read, ?_⟩
  rw [runs, execSetLayout, unlessReset_released released, if_neg (by simp [disabled]), if_neg inRange, read]

/-- Refutes O22: after power-on SET_LAYOUT with the one code 17, which is unknown, is taken, and the layout has 1 code where the refusal would leave its 12. -/
theorem not_setLayoutTestsAndEffect : ¬ Obligations.SetLayoutTestsAndEffect := by
  intro h
  obtain ⟨-, -, byCodes⟩ := h State.reset [17] rfl
  have refused : exec (.setLayout [17]) State.reset = .next (State.reset.refuseValue .control 1) :=
    (byCodes rfl (by decide) (by decide)).1 [] 17 [] rfl (by simp) (by decide)
  obtain ⟨layout, length, taken⟩ := exec_setLayout_taken (s := State.reset) (codes := [17]) rfl rfl (by decide) (by decide)
  have layouts : layout = LookupUnit.defaultLayout :=
    congrArg (fun t => t.lookup.layout) (Host.Outcome.next.inj (taken.symm.trans refused))
  rw [layouts] at length
  exact absurd length (by decide)

/-- Refutes O41 by its clause on the code 17, which FieldCode.ofCode reads as NONE. -/
theorem not_answerLengthAndCheck : ¬ Obligations.AnswerLengthAndCheck := by
  rintro ⟨-, -, -, unknown, -⟩
  rw [fieldCode_ofCode_beyond (by decide)] at unknown
  cases unknown

end Sys2Proof.Machine
end

section
/-! PROOFS. The find of R23, the classification of R136 by its tests in their order (O39), and LOOKUP by its own (O40). -/

namespace Sys2Proof.Machine

section
variable {s : State} {l : Lane} {f : Nat} {i : Slot} {r : Segment}

/-! ### The find (R23) -/

theorem covers_iff : r.covers f = true ↔ r.first ≤ f ∧ ∀ n, r.last = some n → f ≤ n := by
  simp only [Segment.covers, Bool.and_eq_true, decide_eq_true_eq]
  cases r.last <;> simp

/-- What is found is a slot of the list whose segment covers the frame. -/
theorem findCovering_covers {is : List Slot} (h : s.findCovering f is = some (i, r)) : i ∈ is ∧ r.covers f = true := by
  induction is with
  | nil => cases h
  | cons j rest ih =>
    simp only [State.findCovering] at h
    split at h
    · split at h
      · rename_i covers; cases h; exact ⟨List.mem_cons_self, covers⟩
      · exact (ih h).imp_left (List.mem_cons_of_mem j)
    · exact (ih h).imp_left (List.mem_cons_of_mem j)

/-- A frame that a segment of the list covers is found. -/
theorem findCovering_of_covers {is : List Slot} (hi : i ∈ is) (hr : s.seg i = some r) (covers : r.covers f = true) :
    ∃ j q, s.findCovering f is = some (j, q) := by
  induction is with
  | nil => cases hi
  | cons j rest ih =>
    simp only [State.findCovering]
    cases hq : s.seg j with
    | none =>
      refine ih ((List.mem_cons.mp hi).resolve_left ?_)
      rintro rfl
      rw [hr] at hq
      cases hq
    | some q =>
      by_cases here : q.covers f = true
      · exact ⟨j, q, if_pos here⟩
      · refine (ih ((List.mem_cons.mp hi).resolve_left ?_)).imp fun k => Exists.imp fun p e => (if_neg here).trans e
        rintro rfl
        rw [hr] at hq
        cases hq
        exact here covers

/-! ### The tests of R136 in their order -/

/-- The lane's tests before that of the Candidate Queue let the lookup pass: the reel has ENDED, or it runs and the frame is taken. -/
def State.Taken (s : State) (l : Lane) (f : Nat) : Prop :=
  (s.lane l).reel.state = .ended ∨
    (((s.lane l).reel.state = .scanning ∨ (s.lane l).reel.state = .paused) ∧
      ∃ c, (s.lane l).tracker.current = some c ∧ f ≤ c)

theorem classify_of_unloaded (h : (s.lane l).reel.state = .empty ∨ (s.lane l).reel.state = .loaded) :
    s.classify l f = .plain .noReel := by
  rcases h with e | e <;> simp only [State.classify, e]

theorem classify_of_closing (h : (s.lane l).reel.state = .closing) : s.classify l f = .plain .closed := by
  simp only [State.classify, h]

theorem classify_of_lost (h : (s.lane l).reel.state = .ended) (lost : ∀ i r, s.find l f ≠ .found i r) :
    s.classify l f = .plain .outOfRange := by
  cases found : s.find l f with
  | found i r => exact absurd found (lost i r)
  | past => simp only [State.classify, h, found]
  | absent => simp only [State.classify, h, found]

theorem classify_of_ahead (h : (s.lane l).reel.state = .scanning ∨ (s.lane l).reel.state = .paused)
    (ahead : s.isAhead l f = true) : s.classify l f = .defer .ahead := by
  rcases h with e | e <;> simp only [State.classify, e, ahead, if_true]

/-- A frame that is taken, and held by a segment, is classified by the Candidate Queue and that segment. -/
theorem classify_of_taken (h : s.Taken l f) (found : s.find l f = .found i r) : s.classify l f = s.classifyTaken l f := by
  rcases h with ended | ⟨running, c, current, taken⟩
  · simp only [State.classify, ended, found]
  · have here : s.isAhead l f = false := by simp [State.isAhead, current, taken]
    rcases running with e | e <;> simp [State.classify, e, here]

theorem classifyTaken_of_candidate {h : Candidate} {rest : List Candidate} (queue : (s.lane l).queue = h :: rest)
    (under : h.frame ≤ f) : s.classifyTaken l f = .defer .candidate := by
  simp only [State.classifyTaken, queue, if_pos under]

theorem classifyTaken_of_before (before : ∀ h rest, (s.lane l).queue = h :: rest → f < h.frame) :
    s.classifyTaken l f = s.classifyFound l f := by
  simp only [State.classifyTaken]
  split
  · rename_i h rest queue
    exact if_neg (Nat.not_le.mpr (before h rest queue))
  · rfl

theorem classifyFound_of_open (found : s.find l f = .found i r) (phase : r.phase = .measuring ∨ r.phase = .computing) :
    s.classifyFound l f = .defer (.segment i) := by
  simp only [State.classifyFound, found, if_pos phase]

theorem classifyFound_of_settled (found : s.find l f = .found i r)
    (phase : r.phase = .settled ∨ r.phase = .regrading) : s.classifyFound l f = .source i r := by
  have notOpen : ¬(r.phase = .measuring ∨ r.phase = .computing) := by
    rcases phase with e | e <;> simp [e]
  simp only [State.classifyFound, found, if_neg notOpen]

/-- Settles O39: the find names a covering segment of the chain, and each test of R136 decides where no test before it did. -/
theorem classificationOrder : Obligations.ClassificationOrder := by
  intro s l f
  refine ⟨fun i r found => ?_, fun i hi r hr first last => ?_, classify_of_unloaded, classify_of_closing,
    classify_of_lost, fun state ahead => classify_of_ahead state (isAhead_iff.mpr ahead),
    fun i r found taken => ⟨fun h rest queue under => ?_, fun before => ⟨fun phase => ?_, fun phase => ?_⟩⟩⟩
  · obtain ⟨chained, covers⟩ := findCovering_covers (find_eq_found_iff.mp found)
    exact ⟨chained, find_found found, covers_iff.mp covers⟩
  · obtain ⟨j, q, found⟩ := findCovering_of_covers hi hr (covers_iff.mpr ⟨first, last⟩)
    exact ⟨j, q, find_eq_found_iff.mpr found⟩
  · exact (classify_of_taken taken found).trans (classifyTaken_of_candidate queue under)
  · exact ((classify_of_taken taken found).trans (classifyTaken_of_before before)).trans
      (classifyFound_of_open found phase)
  · exact ((classify_of_taken taken found).trans (classifyTaken_of_before before)).trans
      (classifyFound_of_settled found phase)

/-! ### The tests of R135 in their order -/

theorem takeLookup_of_disabled {tag lane : Nat} (h : s.lookup.enabled = false) :
    s.takeLookup tag lane f = s.setStatus .disabled := by
  simp only [State.takeLookup, if_pos h, State.setStatus]

theorem takeLookup_of_outside {tag lane : Nat} (enabled : s.lookup.enabled = true)
    (h : 4 ≤ lane ∨ Config.frameMax < f) : s.takeLookup tag lane f = s.setStatus .badFrame := by
  simp only [State.takeLookup, enabled, Bool.true_eq_false, if_false]
  rcases h with lane | frame
  · split
    · rfl
    · rw [laneOf_none lane]; rfl
  · exact if_pos frame

/-- A LOOKUP in its ranges is refused where 16 reservations stand, and placed where fewer do. -/
theorem takeLookup_of_inside {tag : Nat} (enabled : s.lookup.enabled = true) (inRange : f ≤ Config.frameMax) :
    s.takeLookup tag l.val f =
      if Config.reservationMax ≤ s.reservations then s.setStatus .refusedFull
      else (s.placeLookup tag l f).setStatus .accepted := by
  simp only [State.takeLookup, enabled, Bool.true_eq_false, if_false, if_neg (Nat.not_lt.mpr inRange), laneOf_val,
    State.setStatus]

theorem exec_lookup_eq (released : s.resetHeld = false) (tag lane : Nat) :
    exec (.lookup tag lane f) s = .next (s.takeLookup tag lane f) :=
  unlessReset_released released fun s => s.takeLookup tag lane f

theorem placeLookup_of_plain {tag : Nat} {x : AnswerStatus} (h : s.classify l f = .plain x) :
    s.placeLookup tag l f = s.pushAnswer (s.plainAnswer tag l f x) := by
  simp only [State.placeLookup, h]

theorem placeLookup_of_source {tag : Nat} (h : s.classify l f = .source i r) :
    s.placeLookup tag l f = s.pushAnswer (s.answerFrom tag l f .settled i r) := by
  simp only [State.placeLookup, h]

theorem placeLookup_of_defer {tag : Nat} {reason : DeferReason} (h : s.classify l f = .defer reason) :
    s.placeLookup tag l f =
      if Config.deferredMax ≤ s.lookup.deferred.length then s.pushAnswer (s.plainAnswer tag l f .busy)
      else s.onLookup fun u =>
        { u with
          deferred := u.deferred ++ [{ tag := tag, lane := l, frame := f, reason := reason, remaining := s.limit }] } := by
  simp only [State.placeLookup, h]

/-- Settles O40: each test of R135 that fails writes its status alone, and an accepted LOOKUP is placed by its classification. -/
theorem lookupTestsAndEffect : Obligations.LookupTestsAndEffect := by
  intro s tag lane frame released
  have runs {lane : Nat} {t : State} (taken : s.takeLookup tag lane frame = t) :
      exec (.lookup tag lane frame) s = .next t := (exec_lookup_eq released tag lane).trans (congrArg _ taken)
  refine ⟨fun disabled => runs (takeLookup_of_disabled disabled),
    fun enabled outside => runs (takeLookup_of_outside enabled outside), fun enabled inRange l => ?_⟩
  rintro rfl
  have inside := takeLookup_of_inside (l := l) (tag := tag) enabled inRange
  refine ⟨fun full => runs (inside.trans (if_pos full)), fun room => ?_⟩
  have placed {t : State} (place : s.placeLookup tag l frame = t) :
      exec (.lookup tag l.val frame) s = .next (t.setStatus .accepted) :=
    runs ((inside.trans (if_neg (Nat.not_le.mpr room))).trans (place ▸ rfl))
  exact ⟨fun x plain => placed (placeLookup_of_plain plain), fun i r source => placed (placeLookup_of_source source),
    fun reason waits few => placed ((placeLookup_of_defer waits).trans (if_neg (Nat.not_le.mpr few))),
    fun reason waits many => placed ((placeLookup_of_defer waits).trans (if_pos many))⟩

end

end Sys2Proof.Machine
end

section
/-! PROOFS. The lookup link: what a transaction delivers (O42), and the request it takes after the delivery (O43). -/

namespace Sys2Proof.Machine

/-! ### The bytes of an answer (R148) -/

theorem answer_bytes_length (a : Answer) (order : ByteOrder) : (a.bytes order).length = 9 + 2 * a.slots.length := by
  have slots : (a.slots.flatMap fun (v : Nat) => (wire 2 v).bytes order).length = 2 * a.slots.length := by
    simp only [List.length_flatMap, wireField_bytes_length]
    exact (congrArg List.sum List.map_const').trans (List.sum_replicate_nat.trans (Nat.mul_comm ..))
  simp only [Answer.bytes, withCheck_length, List.length_append, wireField_bytes_length, slots, List.length_cons,
    List.length_nil]
  simp only [wire]
  omega

/-! ### The delivery (R147) -/

section
variable {u : LookupUnit} {o : LookupOpening} {count : Nat}

/-- With an answer at the head when it began, a transaction offers its 10 bytes and 2 for each slot, and removes it when they were all shifted out. -/
theorem deliver_of_head {a : Answer} (head : u.headFor o = some a) :
    u.deliver o count = { u with
      answers := if 10 + 2 * a.slots.length ≤ count then u.answers.tail else u.answers
      status := .none
      shifted := (BitVec.ofNat 8 u.status.code :: a.bytes (u.orderAt o)).take count } := by
  have length : (u.outgoing o).length = 10 + 2 * a.slots.length := by
    simp only [LookupUnit.outgoing, head, List.length_cons, answer_bytes_length]
    omega
  simp only [LookupUnit.deliver, length, head, Option.isSome_some, true_and]
  simp only [LookupUnit.outgoing, head]

/-- With none a transaction offers the EMPTY marker and removes nothing. -/
theorem deliver_of_marker (head : u.headFor o = none) :
    u.deliver o count = { u with
      status := .none
      shifted := (BitVec.ofNat 8 u.status.code :: List.replicate 9 0).take count } := by
  simp [LookupUnit.deliver, LookupUnit.outgoing, head, emptyMarker]

end

section
variable {s : State} {o : LookupOpening} {bytes : List Byte}

theorem exec_transaction (released : s.resetHeld = false) (opened : o ≠ .resetLine) :
    exec (.lookupLinkTransaction o bytes) s = .next (s.transactLookup o bytes) :=
  (unlessReset_released released fun s => if o = .resetLine then s else s.transactLookup o bytes).trans
    (congrArg _ (if_neg opened))

/-- A transaction that carries no request is its delivery. -/
theorem exec_transaction_bare (released : s.resetHeld = false) (opened : o ≠ .resetLine)
    (bare : carriesRequest bytes = false) :
    exec (.lookupLinkTransaction o bytes) s = .next (s.onLookup fun u => u.deliver o bytes.length) :=
  (exec_transaction released opened).trans (congrArg _ (if_pos bare))

/-- Settles O42: the head answer by whether it was shifted out whole, and the EMPTY marker in every other opening. -/
theorem lookupTransactionDelivers : Obligations.LookupTransactionDelivers := by
  intro s bytes released bare
  refine ⟨fun a rest queue => ?_, fun o opening => ?_⟩
  · have head : s.lookup.headFor .plain = some a := by simp only [LookupUnit.headFor, queue, List.head?_cons]
    rw [exec_transaction_bare released (by decide) bare, State.onLookup, deliver_of_head head, queue]
    rfl
  · have opened : o ≠ .resetLine := by
      rintro rfl
      simp at opening
    have head : s.lookup.headFor o = none := by
      rcases opening with rfl | rfl | rfl | ⟨rfl, none⟩
      · rfl
      · rfl
      · rfl
      · simp only [LookupUnit.headFor, none, List.head?_nil]
    rw [exec_transaction_bare released opened bare, State.onLookup, deliver_of_marker head]

/-! ### The frames of the link (R175) -/

/-- So many bytes were shifted in, and they sum to 0 modulo 256. -/
def Sound (bytes : List Byte) (n : Nat) : Prop := n ≤ bytes.length ∧ ((bytes.take n).map BitVec.toNat).sum % 256 = 0

theorem unsound_iff {n : Nat} : (bytes.length < n ∨ byteSum (bytes.take n) ≠ 0) ↔ ¬Sound bytes n := by
  rw [Sound, ← byteSum_eq_zero, Classical.not_and_iff_not_or_not, Nat.not_le]

theorem headD_of_head {b : Byte} (h : bytes.head? = some b) : (bytes.headD 0).toNat = b.toNat := by
  cases bytes with
  | nil => cases h
  | cons c rest => cases h; rfl

theorem lookupRequest_lookup {order : ByteOrder} (type : bytes.head? = some 1) (sound : Sound bytes 8) :
    ∃ tag lane frame, lookupRequest order bytes = some (.lookup tag lane frame) := by
  have code : (bytes.headD 0).toNat = 1 := headD_of_head type
  simp only [lookupRequest, code, unsound_iff, not_not_intro sound, if_false, fieldValues]
  exact ⟨_, _, _, rfl⟩

theorem lookupRequest_summary {order : ByteOrder} (type : bytes.head? = some 2) (sound : Sound bytes 24) :
    ∃ lane frame black white mean, lookupRequest order bytes = some (.summary lane frame black white mean) := by
  have code : (bytes.headD 0).toNat = 2 := headD_of_head type
  simp only [lookupRequest, code, unsound_iff, not_not_intro sound, if_false, fieldValues]
  exact ⟨_, _, _, _, _, rfl⟩

theorem lookupRequest_none {order : ByteOrder} (notLookup : ¬(bytes.head? = some 1 ∧ Sound bytes 8))
    (notSummary : ¬(bytes.head? = some 2 ∧ Sound bytes 24)) : lookupRequest order bytes = none := by
  have typed : ∀ n : Byte, n ≠ 0 → (bytes.headD 0).toNat = n.toNat → bytes.head? = some n := by
    intro n nonzero code
    cases bytes with
    | nil => exact absurd (BitVec.eq_of_toNat_eq code).symm nonzero
    | cons b rest => exact congrArg some (BitVec.eq_of_toNat_eq code)
  simp only [lookupRequest]
  split
  · rename_i code
    exact if_pos (unsound_iff.mpr fun sound => notLookup ⟨typed 1 (by decide) code, sound⟩)
  · rename_i code
    exact if_pos (unsound_iff.mpr fun sound => notSummary ⟨typed 2 (by decide) code, sound⟩)
  · rfl

/-- A frame names a LOOKUP or a SUMMARY. -/
theorem lookupRequest_eq_some {order : ByteOrder} {c : Instr} (h : lookupRequest order bytes = some c) :
    (∃ tag lane frame, c = .lookup tag lane frame) ∨
      ∃ lane frame black white mean, c = .summary lane frame black white mean := by
  by_cases lookup : bytes.head? = some 1 ∧ Sound bytes 8
  · obtain ⟨tag, lane, frame, e⟩ := lookupRequest_lookup (order := order) lookup.1 lookup.2
    exact .inl ⟨tag, lane, frame, Option.some.inj (h.symm.trans e)⟩
  · by_cases summary : bytes.head? = some 2 ∧ Sound bytes 24
    · obtain ⟨lane, frame, black, white, mean, e⟩ := lookupRequest_summary (order := order) summary.1 summary.2
      exact .inr ⟨lane, frame, black, white, mean, Option.some.inj (h.symm.trans e)⟩
    · rw [lookupRequest_none lookup summary] at h
      cases h

/-! ### The request of a transaction (R147, R150) -/

/-- A request that no disable overtook is its own command. -/
theorem takeWhole_of_command {order : ByteOrder} {c : Instr} (released : s.resetHeld = false) (live : o ≠ .overtaken)
    (read : lookupRequest order bytes = some c) : .next (s.takeWhole o c) = exec c s := by
  rcases lookupRequest_eq_some read with ⟨tag, lane, frame, rfl⟩ | ⟨lane, frame, black, white, mean, rfl⟩
  · rw [State.takeWhole, if_neg live]
    exact (unlessReset_released released fun s => s.takeLookup tag lane frame).symm
  · rw [State.takeWhole, if_neg live]
    exact (unlessReset_released released fun s => s.takeSummary lane frame black white mean).symm

/-- A transaction that carries a request takes it, or sets BAD_FRAME, on the state that the delivery left. -/
theorem exec_transaction_request (released : s.resetHeld = false) (opened : o ≠ .resetLine)
    (carries : carriesRequest bytes = true) :
    exec (.lookupLinkTransaction o bytes) s = .next
      (match lookupRequest (s.lookup.orderAt o) bytes with
       | none => (s.onLookup fun u => u.deliver o bytes.length).setStatus .badFrame
       | some c => (s.onLookup fun u => u.deliver o bytes.length).takeWhole o c) := by
  rw [exec_transaction released opened, State.transactLookup, State.takeShiftedIn, if_neg (by simp [carries])]
    <;> rfl

theorem orderAt_eq (u : LookupUnit) (o : LookupOpening) :
    u.orderAt o = if o = .otherOrder then flipOrder u.order else u.order := by
  cases o <;> rfl

theorem headFor_eq (u : LookupUnit) (o : LookupOpening) :
    u.headFor o = if o = .plain then u.answers.head? else none := by
  cases o <;> rfl

/-- Only a transaction with an answer at the head when it began delivers one, and its order stands (R150). -/
theorem orderAt_of_head {u : LookupUnit} {a : Answer} (h : u.headFor o = some a) : u.orderAt o = u.order := by
  cases o with
  | plain => rfl
  | _ => cases h

/-- Settles O43: a frame is read by its type, its length and its sum, and what it names runs on what the delivery left. -/
theorem lookupTransactionTakesRequest : Obligations.LookupTransactionTakesRequest := by
  refine ⟨fun order bytes => ⟨lookupRequest_lookup, lookupRequest_summary, lookupRequest_none⟩, ?_⟩
  intro s o bytes released carries opened order head out delivered
  have orderIs : s.lookup.orderAt o = order := orderAt_eq s.lookup o
  have headIs : s.lookup.headFor o = head := headFor_eq s.lookup o
  have outIs : s.lookup.outgoing o = out := by
    simp only [out, LookupUnit.outgoing, ← headIs]
    cases found : s.lookup.headFor o with
    | none => rfl
    | some a => rw [orderAt_of_head found]
  have deliveredIs : (s.onLookup fun u => u.deliver o bytes.length) = delivered := by
    simp only [State.onLookup, LookupUnit.deliver, outIs, headIs, Option.isSome_iff_ne_none, delivered]
  have runs := exec_transaction_request released opened carries
  rw [orderIs, deliveredIs] at runs
  refine ⟨fun c read => ⟨fun live => ?_, fun overtaken => ?_⟩, fun unread => ?_⟩
  · rw [runs, read]
    exact takeWhole_of_command (s := delivered) released live read
  · rw [runs, read]
    exact congrArg _ (if_pos overtaken)
  · rw [runs, unread]
    rfl

end

end Sys2Proof.Machine
end

section
/-! PROOFS. The deferral tick with its expiries, and the expiry of the oldest entry at its last tick (O55). -/

namespace Sys2Proof.Machine

section
variable {s : State} {e : Deferral} {i : Slot} {r : Segment}

/-! ### What a PROVISIONAL answer is built from (R142) -/

theorem provisionalSource_of_ahead (running : (s.lane e.lane).reel.state ≠ .closing)
    (ahead : s.isAhead e.lane e.frame = true) : s.provisionalSource e = s.openSeg e.lane := by
  simp only [State.provisionalSource]
  split
  · rename_i closing _; exact absurd closing running
  · rw [if_pos ahead]

theorem provisionalSource_of_found (running : (s.lane e.lane).reel.state ≠ .closing)
    (taken : ¬s.isAhead e.lane e.frame = true) (found : s.find e.lane e.frame = .found i r) :
    s.provisionalSource e = some (i, r) := by
  simp only [State.provisionalSource]
  split
  · rename_i closing _; exact absurd closing running
  · rw [if_neg taken, found]

theorem provisionalSource_of_closing (closing : (s.lane e.lane).reel.state = .closing) (reason : e.reason = .segment i)
    (hr : s.seg i = some r) : s.provisionalSource e = some (i, r) := by
  simp only [State.provisionalSource, closing, reason, hr, Option.map_some]

theorem provisionalAnswer_of_source (source : s.provisionalSource e = some (i, r)) :
    s.provisionalAnswer e = (s.answerFrom e.tag e.lane e.frame .provisional i r, some i) := by
  simp only [State.provisionalAnswer, source]

theorem provisionalAnswer_of_none (source : s.provisionalSource e = none) :
    s.provisionalAnswer e = (s.plainAnswer e.tag e.lane e.frame .provisional, none) := by
  simp only [State.provisionalAnswer, source]

/-- Whatever it is built from, the answer is the entry's. -/
theorem provisionalAnswer_header (s : State) (e : Deferral) :
    (s.provisionalAnswer e).1.tag = e.tag ∧ (s.provisionalAnswer e).1.status = .provisional ∧
    (s.provisionalAnswer e).1.lane = e.lane ∧ (s.provisionalAnswer e).1.frame = e.frame := by
  simp only [State.provisionalAnswer]
  split <;> exact ⟨rfl, rfl, rfl, rfl⟩

/-! ### The freeing of the segment awaited (R155, R156) -/

/-- A RETIRING segment is free of every hold when the console has none on it and no other is left. -/
theorem unheld_eq (s : State) (i : Slot) (r : Segment) :
    (decide (r.life = .retiring) && !s.held i r) =
      (decide (r.owner = .auto ∧ r.takePending = false) && heldByConsoleOnly s i r) := by
  rw [Bool.eq_iff_iff]
  cases owner : r.owner <;> cases phase : r.phase <;>
    simp [State.held, heldByConsoleOnly, Deferral.awaits, owner, phase, and_left_comm]

theorem answeredAt_lookup (s : State) (e : Deferral) : (s.answeredAt e).lookup =
    { s.lookup with
      deferred := s.lookup.deferred.erase e
      answers := s.lookup.answers ++ [(s.provisionalAnswer e).1] } := rfl

theorem answeredAt_slotLaws (slots : SlotLaws s) : SlotLaws (s.answeredAt e) := slots.of_slotView rfl

theorem answeredAt_engineLaws (engine : EngineLaws s) : EngineLaws (s.answeredAt e) := engine.congr rfl rfl rfl

/-- What an expiry frees is the segment awaited, where the answer left nothing that holds it. -/
theorem answeredAt_retires (s : State) (e : Deferral) (i : Slot) :
    (s.answeredAt e).retires (fun i => e.awaits i) i =
      (decide (e.reason = .segment i) && (s.seg i).any fun r =>
        decide (r.owner = .auto ∧ r.takePending = false) && heldByConsoleOnly (s.answeredAt e) i r) := by
  simp only [State.retires, Deferral.awaits, unheld_eq]
  rfl

theorem expireEntry_eq_freedAfter (slots : SlotLaws s) (engine : EngineLaws s) :
    s.expireEntry e = freedAfter
      (fun i => decide (e.reason = .segment i) && (s.seg i).any fun r =>
        decide (r.owner = .auto ∧ r.takePending = false) && heldByConsoleOnly (s.answeredAt e) i r)
      (s.answeredAt e) := by
  have apart := fun k q hq phase => ((answeredAt_engineLaws (e := e) engine).outside (i := k) (r := q) hq phase).1
  rw [expireEntry_eq, retire_eq_freedAfter (answeredAt_slotLaws slots) apart]
  exact congrArg (freedAfter · _) (funext (answeredAt_retires s e))

/-! ### The expiries (R141, R142) -/

theorem expireEntry_partNotices (s : State) (e : Deferral) :
    (s.expireEntry e).partNotices = (s.answeredAt e).partNotices := by
  rw [expireEntry_eq]
  exact partNotices_of_settings (retire_settings ..)

/-- An expiry is what R142 and R156 say. -/
theorem expires_expireEntry (s : State) (e : Deferral) : Expires e s (s.expireEntry e) := by
  have source {i : Slot} {r : Segment} (h : s.provisionalSource e = some (i, r)) :
      (s.provisionalAnswer e).1.slots = s.lookup.layout.map (FieldCode.value e.frame i r) ∧
        (s.provisionalAnswer e).2 = some i := by
    rw [provisionalAnswer_of_source h]
    exact ⟨rfl, rfl⟩
  obtain ⟨tag, status, lane, frame⟩ := provisionalAnswer_header s e
  refine ⟨(s.provisionalAnswer e).1, (s.provisionalAnswer e).2, tag, status, lane, frame,
    ⟨fun running => ⟨fun i r taken found => ?_, fun i r past opened => ?_, fun past closed => ?_⟩,
      fun i r closing reason hr => source (provisionalSource_of_closing closing reason hr)⟩,
    expireEntry_lookup s e, expireEntry_partNotices s e,
    fun slots engine => ⟨slots.expireEntry e, engine.expireEntry e, expireEntry_eq_freedAfter slots engine⟩⟩
  · exact source (provisionalSource_of_found running (mt isAhead_iff.mp taken) found)
  · exact source ((provisionalSource_of_ahead running (isAhead_iff.mpr past)).trans opened)
  · rw [provisionalAnswer_of_none ((provisionalSource_of_ahead running (isAhead_iff.mpr past)).trans closed)]
    exact ⟨rfl, rfl⟩

theorem expireInOrder_expireEach (due : List Deferral) (s : State) : ExpireInOrder due s (s.expireEach due) := by
  induction due generalizing s with
  | nil => rfl
  | cons e rest ih =>
    rw [expireEach_cons]
    exact ⟨_, expires_expireEntry s e, ih (s.expireEntry e)⟩

theorem lastTick_iff : e.lastTick = true ↔ e.remaining ≤ 1 := decide_eq_true_iff

theorem lastTick_of_more (h : 2 ≤ e.remaining) : e.lastTick = false := decide_eq_false (by omega)

theorem countDown_eq (s : State) : s.countDown = { s with lookup := { s.lookup with
    deferred := s.lookup.deferred.map fun e => { e with remaining := e.remaining - 1 } } } := rfl

/-- Settles O55: the tick is its expiries and the count-down of the entries left, and DEFERRAL_EXPIRY the first of them. -/
theorem deferralTickAndExpiry : Obligations.DeferralTickAndExpiry := by
  intro s released
  have expiry : exec .deferralExpiry s = .next s.expire := unlessReset_released released State.expire
  refine ⟨⟨_, expireInOrder_expireEach _ s, ?_, ?_⟩, fun waiting => ?_, fun before e after entries earlier last => ?_⟩
  · refine (expireEach_deferred s).trans (List.filter_congr fun e _ => ?_)
    rw [Bool.eq_iff_iff, Bool.not_eq_true', decide_eq_true_eq, Deferral.lastTick, decide_eq_false_iff_not]
    omega
  · have tick : exec .deferralTick s = .next s.deferralTick := unlessReset_released released State.deferralTick
    rw [tick, State.deferralTick, countDown_eq]
    rfl
  · rw [expiry, expire_none fun e he => lastTick_of_more (waiting e he)]
  · obtain ⟨first, left⟩ := expire_first entries (fun d hd => lastTick_of_more (earlier d hd)) (lastTick_iff.mpr last)
    refine ⟨s.expireEntry e, expiry.trans (congrArg _ first), expires_expireEntry s e, ?_⟩
    rw [expireEntry_lookup]
    exact left

end

end Sys2Proof.Machine
end

section
/-! PROOFS. SET_LOOKUP_LINK: the table of R150, and what disabling the link discards and frees (O23). -/

namespace Sys2Proof.Machine

section
variable {s : State} {named : Slot → Bool} {l : Lane} {i : Slot} {r : Segment}

/-! ### What a retirement leaves of the records, the Free List and the lanes (R156-R158) -/

/-- A retirement frees the slots it retires, lowest lane first and each chain from its head, whatever stands in the engine. -/
theorem retire_lanesRetired (slots : SlotLaws s) :
    LanesRetired (s.retires named) [0, 1, 2, 3] s (s.retire named) := by
  have lanes := lanesRetired (named := named) (ls := [0, 1, 2, 3]) slots (fun _ => rfl) (by decide)
  simpa only [List.foldl_cons, List.foldl_nil, ← State.retire.eq_1] using lanes

/-- What the freeing of the slots that `gone` picks leaves of the Free List, the records and the lanes. -/
structure FreedBy (gone : Slot → Bool) (s t : State) : Prop where
  freeList : t.freeList = s.freeList ++ s.chains.filter gone
  seg : ∀ k, t.seg k = if gone k then none else s.seg k
  lane : ∀ l, t.lane l = (s.lane l).freed gone

theorem retire_freedBy (slots : SlotLaws s) : FreedBy (s.retires named) s (s.retire named) := by
  have lanes := retire_lanesRetired (named := named) slots
  have every : ∀ l : Lane, l ∈ ([0, 1, 2, 3] : List Lane) := by decide
  refine ⟨?_, fun k => ?_, fun l => (lanes.lane l).trans (if_pos (every l))⟩
  · rw [lanes.freeList]
    simp [State.chains]
  · rw [lanes.seg k]
    by_cases freed : s.retires named k = true
    · obtain ⟨r, hr⟩ := retires_recorded freed
      rw [if_pos freed, if_pos ⟨⟨r.lane, every r.lane, (slots.mem_chain_iff hr).mpr rfl⟩, freed⟩]
    · rw [if_neg freed, if_neg fun e => freed e.2]

theorem freed_chain (gone : Slot → Bool) (d : LaneState) :
    (d.freed gone).reel.chain = d.reel.chain.filter fun i => !gone i := by
  simp only [LaneState.freed]
  split
  · rename_i ends; exact ends.2.1.symm
  · rfl

/-- A CLOSING reel with every segment freed is EMPTY (R158). -/
theorem freed_of_all {gone : Slot → Bool} {d : LaneState} (closing : d.reel.state = .closing) (stocked : d.reel.chain ≠ [])
    (all : ∀ i ∈ d.reel.chain, gone i = true) :
    d.freed gone =
      { d with
        reel := { state := .empty, load := none, chain := [] }
        tracker := { d.tracker with current := none, lastPosition := none, deadline := none }
        notices := d.notices.set 10 { raised := true, latest := none } } := by
  have left : (d.reel.chain.filter fun i => !gone i) = [] := List.filter_eq_nil_iff.mpr fun i hi => by simp [all i hi]
  exact if_pos ⟨closing, left, stocked⟩

theorem freeSlot_queue (s : State) (i : Slot) (l : Lane) : ((s.freeSlot i).lane l).queue = (s.lane l).queue := by
  cases hr : s.seg i with
  | none => rw [freeSlot_of_free hr]
  | some r =>
    obtain ⟨-, -, -, lane, others, -, -⟩ := freeSlot_of_seg hr
    by_cases e : l = r.lane
    · subst e; rw [lane]
    · rw [others l e]

theorem endClosing_queue (s : State) (l m : Lane) : ((s.endClosing l).lane m).queue = (s.lane m).queue := by
  by_cases e : m = l
  · subst e
    by_cases ends : (s.lane m).reel.state = .closing ∧ s.chain m = []
    · rw [endClosing_lane_of_ends ends.1 ends.2]
    · rw [State.endClosing, if_neg ends]
  · rw [endClosing_lane_other s e]

/-- A retirement leaves every Candidate Queue alone. -/
theorem retire_queue (s : State) (named : Slot → Bool) (l : Lane) : ((s.retire named).lane l).queue = (s.lane l).queue :=
  KeptByRetirement.retire_kept (P := fun t => (t.lane l).queue = (s.lane l).queue)
    { freeSlot := fun ht _ _ _ => (freeSlot_queue ..).trans ht
      endClosing := fun m ht => (endClosing_queue _ m l).trans ht } rfl

/-! ### The link disabled, before the freeing (R150) -/

/-- The part with the link disabled and every entry and answer discarded, before the freeing of the segments awaited. -/
def State.linkOff (s : State) : State :=
  s.onLookup fun u => { u with enabled := false, deferred := [], answers := [], status := .none }

/-- Some entry of the Deferred Set awaits the slot. -/
def State.awaited (s : State) (i : Slot) : Bool := s.lookup.deferred.any fun e => e.awaits i

theorem disableLink_eq (s : State) : s.disableLink = s.linkOff.retire s.awaited := by
  unfold State.disableLink State.linkOff
  rfl

theorem linkOff_slotLaws (slots : SlotLaws s) : SlotLaws s.linkOff := slots.of_slotView rfl

/-- With no entry left the console and an unfinished computation alone hold a RETIRING segment (R155). -/
theorem linkOff_retires (hr : s.seg i = some r) : s.linkOff.retires s.awaited i =
    (s.awaited i && decide (r.life = .retiring ∧ r.owner = .auto ∧ r.takePending = false ∧ r.phase ≠ .measuring ∧
      r.phase ≠ .computing)) := by
  have seg : s.linkOff.seg i = some r := hr
  have entries : s.linkOff.lookup.deferred = [] := rfl
  rw [Bool.eq_iff_iff]
  cases owner : r.owner <;> simp [State.retires, seg, State.held, entries, owner, and_assoc]

theorem linkOff_retires_free (hr : s.seg i = none) : s.linkOff.retires s.awaited i = false := by
  have seg : s.linkOff.seg i = none := hr
  simp [State.retires, seg]

/-- Disabling keeps all that the freeing does not reach. -/
structure LinkDisabled (s t : State) : Prop where
  lookup : t.lookup = { s.lookup with enabled := false, deferred := [], answers := [], status := .none }
  settings : t.settings = s.linkOff.settings
  queue : ∀ l, (t.lane l).queue = (s.lane l).queue
  live : ∀ i r, s.seg i = some r → r.life = .live → t.seg i = some r
  engine : EngineLaws s → t.computeQueue = s.computeQueue ∧ t.engine = s.engine

theorem disableLink_disabled (s : State) : LinkDisabled s s.disableLink := by
  rw [disableLink_eq]
  exact
    { lookup := retire_lookup ..
      settings := retire_settings ..
      queue := retire_queue s.linkOff s.awaited
      live := fun i r hr live => retire_live (s := s.linkOff) _ hr live
      engine := fun laws => by
        have off : EngineLaws s.linkOff := laws.congr rfl rfl rfl
        exact retire_engine (s := s.linkOff) fun k r hr phase => (off.outside hr phase).1 }

theorem disableLink_freedBy (slots : SlotLaws s) : FreedBy (s.linkOff.retires s.awaited) s s.disableLink := by
  rw [disableLink_eq]
  have freed := retire_freedBy (named := s.awaited) (linkOff_slotLaws slots)
  exact ⟨freed.freeList, freed.seg, freed.lane⟩

/-! ### The request -/

@[simp] theorem ok_control_control (s : State) (payload : List WireField) : (s.ok .control payload).control =
    { s.control with
      slot := some { status := .ok, reason := .none, payload := payload, ignored := false }
      dispatched := none } := rfl

@[simp] theorem ok_control_grading (s : State) (payload : List WireField) :
    (s.ok .control payload).grading = s.grading := rfl

theorem exec_setLookupLink (m n : Nat) (s : State) : exec (.setLookupLink m n) s = execSetLookupLink m n s := rfl

theorem yesNoOf_none {m : Nat} (h : 2 ≤ m) : yesNoOf m = none := by
  obtain ⟨k, rfl⟩ := Nat.exists_eq_add_of_le' h
  rfl

theorem yesNoOf_some {m : Nat} (h : m ≤ 1) : ∃ enable, yesNoOf m = some enable := by
  match m with
  | 0 => exact ⟨false, rfl⟩
  | 1 => exact ⟨true, rfl⟩

theorem byteOrderOf_none {n : Nat} (h : 2 ≤ n) : byteOrderOf n = none := by
  obtain ⟨k, rfl⟩ := Nat.exists_eq_add_of_le' h
  rfl

theorem exec_setLookupLink_of_values {m n : Nat} {enable : Bool} {order : ByteOrder} (released : s.resetHeld = false)
    (he : yesNoOf m = some enable) (ho : byteOrderOf n = some order) :
    exec (.setLookupLink m n) s = .next (s.setLookupLink enable order) := by
  rw [exec_setLookupLink, execSetLookupLink, unlessReset_released released, he, ho]

theorem setLookupLink_of_disabled (disabled : s.lookup.enabled = false) (enable : Bool) (order : ByteOrder) :
    s.setLookupLink enable order = (s.onLookup fun u => { u with order := order, enabled := enable }).ok .control := by
  rw [State.setLookupLink, if_neg (by simp [disabled])]

theorem setLookupLink_enable_of_enabled (enabled : s.lookup.enabled = true) (order : ByteOrder) :
    s.setLookupLink true order = if order = s.lookup.order then s.ok .control else s.refuse .control .linkEnabled := by
  rw [State.setLookupLink, if_pos enabled, if_pos rfl]

theorem setLookupLink_disable (enabled : s.lookup.enabled = true) (order : ByteOrder) :
    s.setLookupLink false order = (s.disableLink.onLookup fun u => { u with order := order }).ok .control := by
  rw [State.setLookupLink, if_pos enabled, if_neg Bool.false_ne_true]

/-- A link that is disabled already stays so, in the order given. -/
theorem reorder_of_disabled (disabled : s.lookup.enabled = false) (order : ByteOrder) :
    (s.onLookup fun u => { u with order := order, enabled := false }) =
      { s with lookup := { s.lookup with order := order } } := by
  simp only [State.onLookup, ← disabled]

/-- Settles O23: the two values, then the table of R150, and for its disabling row the discarding and the freeing. -/
theorem setLookupLinkTable : Obligations.SetLookupLinkTable := by
  refine ⟨fun s m n released => ⟨fun beyond => ?_, fun known beyond => ?_⟩,
    fun s order n released ho => ⟨fun disabled => ⟨?_, ?_⟩, fun enabled => ⟨fun same => ?_, fun other => ?_, ?_⟩⟩⟩
  · rw [exec_setLookupLink, execSetLookupLink, unlessReset_released released, yesNoOf_none beyond]
  · obtain ⟨enable, he⟩ := yesNoOf_some known
    rw [exec_setLookupLink, execSetLookupLink, unlessReset_released released, he, byteOrderOf_none beyond]
  · rw [exec_setLookupLink_of_values released (enable := false) rfl ho, setLookupLink_of_disabled disabled,
      reorder_of_disabled disabled]
  · rw [exec_setLookupLink_of_values released (enable := true) rfl ho, setLookupLink_of_disabled disabled]
    rfl
  · rw [exec_setLookupLink_of_values released (enable := true) rfl ho, setLookupLink_enable_of_enabled enabled, if_pos same]
  · rw [exec_setLookupLink_of_values released (enable := true) rfl ho, setLookupLink_enable_of_enabled enabled, if_neg other]
  · intro gone
    have retires : s.linkOff.retires s.awaited = gone := funext fun i => by
      simp only [gone]
      cases hr : s.seg i with
      | none => simp [linkOff_retires_free hr]
      | some r => exact linkOff_retires hr
    obtain ⟨lookup, settings, queue, live, engine⟩ := disableLink_disabled s
    have freed := disableLink_freedBy (s := s)
    rw [retires] at freed
    have runs := exec_setLookupLink_of_values (m := 0) (enable := false) released rfl ho
    rw [setLookupLink_disable enabled] at runs
    refine ⟨_, runs, ?_⟩
    generalize s.disableLink = d at *
    have control : d.control = s.control := control_of_settings (s := s.linkOff) settings
    have grading : d.grading = s.grading := grading_of_settings (s := s.linkOff) settings
    have profiles : d.profiles = s.profiles := profiles_of_settings (s := s.linkOff) settings
    simp only [ok_seg, ok_lane, ok_chain, ok_freeList, ok_lookup, ok_computeQueue, ok_engine, ok_profiles, State.answerLine,
      ok_control_control, ok_control_grading, onLookup_lookup, onLookup_control, onLookup_grading, onLookup_lane,
      onLookup_seg, onLookup_chain, onLookup_freeList, onLookup_computeQueue, onLookup_engine, onLookup_profiles]
    refine ⟨by rw [lookup], by rw [control], grading, by rw [lookup]; rfl, engine, profiles, queue, live,
      fun slots => ?_⟩
    obtain ⟨freeList, seg, lane⟩ := freed slots
    refine ⟨freeList, seg, fun l => ?_, fun l closing stocked all => ?_⟩
    · rw [State.chain, lane, freed_chain]
      rfl
    · have emptied := (lane l).trans (freed_of_all closing stocked all)
      exact ⟨congrArg LaneState.reel emptied, congrArg (·.tracker.current) emptied,
        (congrArg (·.notices[10]) emptied).trans (Vector.getElem_set_self ..)⟩

end

end Sys2Proof.Machine
end

section
/-! PROOFS. Notices and their policies: the levels of ATTN-C, ATTN-G and HOLD (O27), SET_POLICY (O24) and CLEAR_NOTICE (O26). -/

namespace Sys2Proof.Machine

/-! ### The levels of the lines (R167, R168) -/

/-- The route by which a flag reaches only the other attention line. -/
def otherRoute (toControl : Bool) : Route := if toControl then .grading else .control

/-- The table of R167: a set flag drives a line when its kind is enabled and its route is not the other line's alone. -/
theorem drives_iff (toControl : Bool) (f : NoticeFlag) (p : Policy) :
    drives toControl f p = true ↔ f.raised = true ∧ p.enable = true ∧ p.route ≠ otherRoute toControl := by
  obtain ⟨enable, route, hold⟩ := p
  cases route <;> cases toControl <;> simp [drives, otherRoute]

theorem attention_iff (s : State) (toControl : Bool) :
    s.attention toControl = true ↔
      (∃ (l : Lane) (k : Fin 11), (s.lane l).notices[k].raised = true ∧ (s.lane l).policies[k].enable = true ∧
        (s.lane l).policies[k].route ≠ otherRoute toControl) ∨
      (∃ k : Fin 5, s.partNotices[k].raised = true ∧ s.partPolicies[k].enable = true ∧
        s.partPolicies[k].route ≠ otherRoute toControl) := by
  simp [State.attention, drives_iff]

theorem holdLine_iff (s : State) (l : Lane) :
    s.holdLine l = true ↔ ∃ k : Fin 11, (s.lane l).notices[k].raised = true ∧ (s.lane l).policies[k].hold = true := by
  simp [State.holdLine]

/-- Settles O27. -/
theorem linesFollowFlagsAndPolicy : Obligations.LinesFollowFlagsAndPolicy :=
  fun s => ⟨attention_iff s true, attention_iff s false, holdLine_iff s⟩

/-! ### The same write on each lane that a lane field names -/

theorem lanesOf_none {n : Nat} (beyond : 4 ≤ n) (notAll : n ≠ 255) : lanesOf n = none := by
  rw [lanesOf, if_neg notAll, laneOf_none beyond, Option.map_none]

/-- A lane field of 0 to 3 names that lane, and 255 all four (R165, R166). -/
theorem lanesOf_named {n : Nat} (named : n < 4 ∨ n = 255) :
    ∃ lanes : List Lane, lanesOf n = some lanes ∧ lanes.Nodup ∧ ∀ l : Lane, l ∈ lanes ↔ n = 255 ∨ n = l.val := by
  by_cases all : n = 255
  · have every : ∀ l : Lane, l ∈ ([0, 1, 2, 3] : List Lane) := by decide
    exact ⟨[0, 1, 2, 3], if_pos all, by decide, fun l => ⟨fun _ => .inl all, fun _ => every l⟩⟩
  · have below : n < 4 := named.resolve_right all
    refine ⟨[⟨n, below⟩], ?_, List.pairwise_singleton .., fun l => ?_⟩
    · rw [lanesOf, if_neg all, laneOf, dif_pos below, Option.map_some]
    · rw [List.mem_singleton, Fin.ext_iff, eq_comm, or_iff_right all]

section
variable (s : State) (f : LaneState → LaneState) {lanes : List Lane}

/-- A write of lanes leaves the rest of the part alone. -/
theorem foldl_onLane_frame (lanes : List Lane) :
    lanes.foldl (fun s l => s.onLane l f) s = { s with lanes := (lanes.foldl (fun s l => s.onLane l f) s).lanes } := by
  induction lanes generalizing s with
  | nil => rfl
  | cons l rest ih => exact ih (s.onLane l f)

/-- The lanes named take the write once each, and the others keep what they hold. -/
theorem foldl_onLane_lane (nodup : lanes.Nodup) (m : Lane) :
    (lanes.foldl (fun s l => s.onLane l f) s).lane m = if m ∈ lanes then f (s.lane m) else s.lane m := by
  induction lanes generalizing s with
  | nil => rfl
  | cons l rest ih =>
    obtain ⟨fresh, distinct⟩ := List.nodup_cons.mp nodup
    rw [List.foldl_cons, ih _ distinct]
    by_cases here : m = l
    · subst here
      rw [if_neg fresh, onLane_lane, if_pos List.mem_cons_self]
    · simp only [onLane_lane_other _ _ _ _ here, List.mem_cons, here, false_or]

end

/-! ### SET_POLICY (R166) -/

@[simp] theorem yesNoOf_toNat (b : Bool) : yesNoOf b.toNat = some b := by cases b <;> rfl

theorem route_ofCode_none {n : Nat} (beyond : 3 ≤ n) : Route.ofCode n = none := by
  obtain ⟨k, rfl⟩ := Nat.exists_eq_add_of_le' beyond
  rfl

theorem route_ofCode_some {n : Nat} (known : n ≤ 2) : ∃ route, Route.ofCode n = some route := by
  match n with
  | 0 => exact ⟨.control, rfl⟩
  | 1 => exact ⟨.grading, rfl⟩
  | 2 => exact ⟨.both, rfl⟩

@[simp] theorem kindOf_lane (k : Fin 11) : kindOf k.val = some (.laneKind k) := dif_pos k.isLt

@[simp] theorem kindOf_part (k : Fin 5) : kindOf (11 + k.val) = some (.partKind k) := by
  simp [kindOf]

theorem kindOf_none {n : Nat} (beyond : 16 ≤ n) : kindOf n = none := by
  rw [kindOf, dif_neg (by omega), dif_neg (by omega)]

section
variable {s : State} {on dest held : Nat} {partWide : Bool} {write : Policy → State}

theorem writePolicy_taken {code : Nat} {route : Route} (enable hold : Bool) (hr : Route.ofCode code = some route)
    (permitted : (partWide && hold) = false) :
    s.writePolicy enable.toNat code hold.toNat partWide write =
      (write { enable := enable, route := route, hold := hold }).ok .control := by
  simp [State.writePolicy, hr, permitted]

theorem writePolicy_of_enable (bad : 2 ≤ on) : s.writePolicy on dest held partWide write = s.refuseValue .control 3 := by
  rw [State.writePolicy, yesNoOf_none bad]

theorem writePolicy_of_route (ho : on ≤ 1) (bad : 3 ≤ dest) :
    s.writePolicy on dest held partWide write = s.refuseValue .control 4 := by
  obtain ⟨enable, he⟩ := yesNoOf_some ho
  rw [State.writePolicy, he, route_ofCode_none bad]

theorem writePolicy_of_hold (ho : on ≤ 1) (hd : dest ≤ 2) (bad : 2 ≤ held ∨ (held = 1 ∧ partWide = true)) :
    s.writePolicy on dest held partWide write = s.refuseValue .control 5 := by
  obtain ⟨enable, he⟩ := yesNoOf_some ho
  obtain ⟨route, hr⟩ := route_ofCode_some hd
  rw [State.writePolicy, he, hr]
  rcases bad with beyond | ⟨rfl, rfl⟩
  · rw [yesNoOf_none beyond]
  · rfl

end

theorem exec_setPolicy (n k on dest held : Nat) (s : State) :
    exec (.setPolicy n k on dest held) s = execSetPolicy n k on dest held s := rfl

section
variable {s : State} (released : s.resetHeld = false) (n on dest held : Nat)
include released

theorem exec_setPolicy_kind_none {k : Nat} (beyond : 16 ≤ k) :
    exec (.setPolicy n k on dest held) s = .next (s.refuseValue .control 2) := by
  rw [exec_setPolicy, execSetPolicy, unlessReset_released released, kindOf_none beyond]

theorem exec_setPolicy_part (k : Fin 5) : exec (.setPolicy n (11 + k.val) on dest held) s =
    .next (s.writePolicy on dest held true fun p => s.setPartPolicy k p) := by
  rw [exec_setPolicy, execSetPolicy, unlessReset_released released, kindOf_part]

theorem exec_setPolicy_lane {lanes : List Lane} (named : lanesOf n = some lanes) (k : Fin 11) :
    exec (.setPolicy n k.val on dest held) s =
      .next (s.writePolicy on dest held false fun p => s.setLanePolicy lanes k p) := by
  rw [exec_setPolicy, execSetPolicy, unlessReset_released released, kindOf_lane, named]

theorem exec_setPolicy_noLane (noLane : lanesOf n = none) (k : Fin 11) :
    exec (.setPolicy n k.val on dest held) s = .next (s.refuse .control .badLane) := by
  rw [exec_setPolicy, execSetPolicy, unlessReset_released released, kindOf_lane, noLane]

/-- Past the tests of the kind and the lane, every kind takes the value tests. -/
theorem exec_setPolicy_values {k : Nat} (known : (k < 11 ∧ (n < 4 ∨ n = 255)) ∨ (11 ≤ k ∧ k < 16)) :
    ∃ write, exec (.setPolicy n k on dest held) s = .next (s.writePolicy on dest held (decide (11 ≤ k)) write) := by
  rcases known with ⟨below, named⟩ | ⟨above, below⟩
  · obtain ⟨lanes, hl, -, -⟩ := lanesOf_named named
    rw [decide_eq_false (Nat.not_le.mpr below)]
    exact ⟨_, exec_setPolicy_lane released n on dest held hl ⟨k, below⟩⟩
  · obtain ⟨j, rfl⟩ := Nat.exists_eq_add_of_le above
    rw [decide_eq_true above]
    exact ⟨_, exec_setPolicy_part released n on dest held ⟨j, by omega⟩⟩

end

/-- Settles O24: a lane kind, a part-wide kind, then the refusals in the order of R166. -/
theorem setPolicyTaken : Obligations.SetPolicyTaken := by
  intro s n code enable hold route released hr
  refine ⟨fun k named => ?lane, fun k => ?part, fun k beyond => ?kind, fun k below beyond notAll => ?badLane,
    fun k on dest held known => ?values⟩
  case lane =>
    obtain ⟨lanes, hl, nodup, mem⟩ := lanesOf_named named
    refine ⟨s.setLanePolicy lanes k ⟨enable, route, hold⟩, ?_, foldl_onLane_frame .., fun l => ?_⟩
    · rw [exec_setPolicy_lane released _ _ _ _ hl, writePolicy_taken enable hold hr (Bool.false_and hold)]
    · rw [State.setLanePolicy, foldl_onLane_lane _ _ nodup]
      simp only [mem, update]
  case part =>
    exact (exec_setPolicy_part released ..).trans (congrArg _ (writePolicy_taken enable false hr rfl))
  case kind => exact exec_setPolicy_kind_none released n _ _ _ beyond
  case badLane => exact exec_setPolicy_noLane released n _ _ _ (lanesOf_none beyond notAll) ⟨k, below⟩
  case values =>
    obtain ⟨write, runs⟩ := exec_setPolicy_values released n on dest held known
    rw [runs]
    refine ⟨fun bad => ?_, fun ho bad => ?_, fun ho hd bad => ?_⟩
    · rw [writePolicy_of_enable bad]
    · rw [writePolicy_of_route ho bad]
    · rw [writePolicy_of_hold ho hd (by simpa using bad)]

/-! ### A number read by its bits -/

theorem bitsValue_lt (bits : List Bool) : bitsValue bits < 2 ^ bits.length := by
  induction bits with
  | nil => exact Nat.one_pos
  | cons b rest ih =>
    have : b.toNat ≤ 1 := Bool.toNat_le b
    rw [bitsValue, List.length_cons, Nat.pow_succ]
    omega

/-- Bit `i` of the value is the i-th of the list, and every bit past its end is 0. -/
theorem testBit_bitsValue (bits : List Bool) (i : Nat) : (bitsValue bits).testBit i = bits.getD i false := by
  induction bits generalizing i with
  | nil => simp [bitsValue]
  | cons b rest ih =>
    have : b.toNat ≤ 1 := Bool.toNat_le b
    cases i with
    | zero =>
      have low : bitsValue (b :: rest) % 2 = b.toNat := by rw [bitsValue]; omega
      rw [Nat.testBit_zero, low]
      cases b <;> rfl
    | succ i =>
      have high : bitsValue (b :: rest) / 2 = bitsValue rest := by rw [bitsValue]; omega
      rw [Nat.testBit_succ, high, ih]
      rfl

/-! ### CLEAR_NOTICE (R165) -/

theorem mayClear_iff (link : PortName) (p : Policy) : mayClear link p = true ↔ link = .control ∨ p.route ≠ .control := by
  cases link <;> simp [mayClear]

/-- A flag after a clear, by whether it is asked for and the link may clear it. -/
theorem clearNotices_notice (d : LaneState) (link : PortName) (mask : Nat) (j : Fin 11) :
    (d.clearNotices link mask).notices[j] =
      if mask.testBit j.val = true ∧ (link = .control ∨ d.policies[j].route ≠ .control) then
        { d.notices[j] with raised := false }
      else d.notices[j] := by
  simp [LaneState.clearNotices, asked, mayClear_iff]

theorem clearPartNotices_notice (s : State) (link : PortName) (mask : Nat) (j : Fin 5) :
    (s.clearPartNotices link mask).partNotices[j] =
      if mask.testBit (11 + j.val) = true ∧ (link = .control ∨ s.partPolicies[j].route ≠ .control) then
        { s.partNotices[j] with raised := false }
      else s.partNotices[j] := by
  simp [State.clearPartNotices, asked, mayClear_iff]

section
variable (s : State) (link : PortName) (mask : Nat)

/-- A clear changes flags alone. -/
theorem clearNotices_frame (lanes : List Lane) : s.clearNotices link lanes mask =
    { s with
      lanes := (s.clearNotices link lanes mask).lanes
      partNotices := (s.clearNotices link lanes mask).partNotices } := by
  rw [State.clearNotices, foldl_onLane_frame]
  rfl

/-- The part-wide flags are cleared whatever lanes are named. -/
theorem clearNotices_partNotices (lanes : List Lane) :
    (s.clearNotices link lanes mask).partNotices = (s.clearPartNotices link mask).partNotices := by
  rw [State.clearNotices, foldl_onLane_frame]
  rfl

theorem clearNotices_lane {lanes : List Lane} (nodup : lanes.Nodup) (l : Lane) :
    (s.clearNotices link lanes mask).lane l =
      if l ∈ lanes then (s.lane l).clearNotices link mask else s.lane l :=
  foldl_onLane_lane s (fun d => d.clearNotices link mask) nodup l

theorem clearedMask_lt (lanes : List Lane) : s.clearedMask link lanes mask < 65536 :=
  Nat.lt_of_lt_of_eq (bitsValue_lt _) (by simp)

theorem clearedMask_lane (lanes : List Lane) (j : Fin 11) :
    (s.clearedMask link lanes mask).testBit j.val = true ↔ mask.testBit j.val = true ∧
      ∃ l ∈ lanes, link = .control ∨ (s.lane l).policies[j].route ≠ .control := by
  rw [State.clearedMask, testBit_bitsValue, List.getD_eq_getElem?_getD, List.getElem?_append_left (by simp)]
  simp [asked, mayClear_iff]

theorem clearedMask_part (lanes : List Lane) (j : Fin 5) :
    (s.clearedMask link lanes mask).testBit (11 + j.val) = true ↔ mask.testBit (11 + j.val) = true ∧
      (link = .control ∨ s.partPolicies[j].route ≠ .control) := by
  rw [State.clearedMask, testBit_bitsValue, List.getD_eq_getElem?_getD, List.getElem?_append_right (by simp)]
  simp [asked, mayClear_iff]

end

theorem exec_clearNotice (link : PortName) (n mask : Nat) (s : State) :
    exec (.clearNotice link n mask) s = execClearNotice link n mask s := rfl

/-- Settles O26: the two refusals, then the flags lane by lane and the mask bit by bit. -/
theorem clearNoticeByMask : Obligations.ClearNoticeByMask := by
  intro s link n mask released
  rw [exec_clearNotice, execClearNotice, unlessReset_released released]
  refine ⟨fun beyond notAll => ?badLane, fun named beyond => ?badMask, fun named legal => ?taken⟩
  case badLane => rw [lanesOf_none beyond notAll]
  case badMask =>
    obtain ⟨lanes, hl, -, -⟩ := lanesOf_named named
    simp only [hl, if_pos beyond]
  case taken =>
    obtain ⟨lanes, hl, nodup, mem⟩ := lanesOf_named named
    have lane := clearNotices_lane s link mask nodup
    refine ⟨s.clearNotices link lanes mask, s.clearedMask link lanes mask, ?_, clearNotices_frame s link mask lanes,
      fun l => ?_, fun l j => ?_, fun j => ?_, clearedMask_lt s link mask lanes, fun j => ?_,
      clearedMask_part s link mask lanes⟩
    · simp only [hl, if_neg (Nat.not_le.mpr legal)]
    · rw [lane]
      split <;> rfl
    · rw [lane]
      by_cases here : l ∈ lanes
      · simp only [← mem l, here, if_true, true_and, clearNotices_notice]
      · simp only [← mem l, here, if_false, false_and]
    · rw [clearNotices_partNotices, clearPartNotices_notice]
    · simp only [clearedMask_lane, mem]

end Sys2Proof.Machine
end

section
/-! PROOFS. An empty queue (O2), the resets of the part (O5), SET_TIMERS (O25) and SET_LINK (O12). -/

namespace Sys2Proof.Machine

/-! ### An empty queue (log entry 2) -/

section
variable {s : State}

theorem step_of_due {c : Instr} (empty : s.pending = []) (due : dueEvent s = some c) : step s = exec c s := by
  simp only [step, empty, due]

theorem step_of_idle (empty : s.pending = []) (idle : dueEvent s = none) : step s = .next s := by
  simp only [step, empty, idle]

theorem dueEvent_of_control {c : Instr} (dispatched : s.control.dispatched = some c) : dueEvent s = some c := by
  simp only [dueEvent, dispatched]

theorem dueEvent_of_grading (control : s.control.dispatched = none) : dueEvent s = s.grading.dispatched := by
  simp only [dueEvent, control]

end

/-- Settles O2: what is due is the control link's request, and with none the grading link's. -/
theorem emptyQueueStep : Obligations.EmptyQueueStep := by
  intro s empty
  refine ⟨fun c dispatched => ?_, fun c control grading => ?_, fun control grading => ?_⟩
  · exact step_of_due empty (dueEvent_of_control dispatched)
  · exact step_of_due empty ((dueEvent_of_grading control).trans grading)
  · exact step_of_idle empty ((dueEvent_of_grading control).trans grading)

/-! ### The resets of the part (R178) -/

/-- What a reset of the part leaves, with the RESET line at a level. -/
def State.resetTo (s : State) (held : Bool) : State := { s.partReset with resetHeld := held }

section
variable (s : State) (held : Bool)

theorem exec_resetLine : exec (.resetLine held) s = .next (s.resetTo held) := rfl

theorem exec_resetPart {s : State} (released : s.resetHeld = false) : exec .resetPart s = .next (s.resetTo false) := by
  have runs : exec .resetPart s = s.unlessReset State.partReset := rfl
  rw [runs, unlessReset_released released, State.resetTo, ← released]
  rfl

@[simp] theorem resetTo_lane (l : Lane) : (s.resetTo held).lane l = LaneState.reset := reset_lane l

@[simp] theorem resetTo_link (k : PortName) : (s.resetTo held).link k = Link.reset := by cases k <;> rfl

theorem resetTo_attention (toControl : Bool) : (s.resetTo held).attention toControl = false :=
  attention_of_clear (s := s.resetTo held) (fun l k => by rw [resetTo_lane, reset_notice])
    (fun k => congrArg NoticeFlag.raised (reset_partNotice k)) toControl

theorem resetTo_holdLine (l : Lane) : (s.resetTo held).holdLine l = false :=
  holdLine_of_clear fun k => by rw [resetTo_lane, reset_notice]

end

/-- Every command but POWER_ON and RESET_LINE stands behind the test of State.unlessReset, so a held RESET line ignores it (log entry 19). -/
theorem exec_held {c : Instr} {s : State} (held : s.resetHeld = true) (notPowerOn : c ≠ .powerOn)
    (notResetLine : ∀ held, c ≠ .resetLine held) : exec c s = .next s := by
  obtain ⟨⟩ := s
  subst held
  cases c with
  | powerOn => exact absurd rfl notPowerOn
  | resetLine held => exact absurd rfl (notResetLine held)
  | _ => rfl

/-- A command whose effect is none leaves the part as it is at either level of the RESET line. -/
theorem unlessReset_id (s : State) : (s.unlessReset fun s => s) = .next s := by
  simp only [State.unlessReset, ite_self]

/-- Settles O5: the state after the reset and its outputs, then the commands that the RESET line ignores. -/
theorem partResetKeepsProfilesAndLayout : Obligations.PartResetKeepsProfilesAndLayout := by
  intro s after
  refine ⟨fun held => ⟨exec_resetLine s held, resetTo_attention s held true, resetTo_attention s held false, rfl,
    fun l => ⟨resetTo_holdLine s held l, ?duty⟩, fun k => ?link⟩, exec_resetPart, fun held c => exec_held held,
    fun k bytes => unlessReset_id s, fun bytes => unlessReset_id s⟩
  case duty => exact congrArg LaneState.duty (resetTo_lane s held l)
  case link =>
    have link : (after held).link k = Link.reset := resetTo_link s held k
    rw [link]
    exact ⟨rfl, rfl⟩

/-! ### SET_TIMERS (R177, R129) -/

theorem tickSelect_ofCode_none {n : Nat} (beyond : 3 ≤ n) : TickSelect.ofCode n = none := by
  obtain ⟨k, rfl⟩ := Nat.exists_eq_add_of_le' beyond
  rfl

theorem tickSelect_ofCode_some {n : Nat} (known : n < 3) : ∃ select, TickSelect.ofCode n = some select := by
  match n with
  | 0 => exact ⟨.thirtySecond, rfl⟩
  | 1 => exact ⟨.eighth, rfl⟩
  | 2 => exact ⟨.half, rfl⟩

theorem exec_setTimers (tick limit lease : Nat) (s : State) :
    exec (.setTimers tick limit lease) s = execSetTimers tick limit lease s := rfl

theorem exec_setTimers_of_select {s : State} {tick limit lease : Nat} {select : TickSelect} (released : s.resetHeld = false)
    (known : TickSelect.ofCode tick = some select) :
    exec (.setTimers tick limit lease) s = .next
      (if limit < 1 ∨ 255 < limit then s.refuseValue .control 2
       else if 255 < lease then s.refuseValue .control 3
       else (s.setTimers select limit lease).ok .control) := by
  rw [exec_setTimers, execSetTimers, unlessReset_released released, known]

/-- Settles O25: the tests of the three fields in the order of the request. -/
theorem setTimersTestsAndEffect : Obligations.SetTimersTestsAndEffect := by
  intro s tick limit lease released
  refine ⟨fun select known low high short => ?taken, fun beyond => ?tick, fun small bad => ?limit,
    fun small low high long => ?lease⟩
  case taken =>
    rw [exec_setTimers_of_select released known, if_neg (by omega), if_neg (by omega)]
    rfl
  case tick =>
    rw [exec_setTimers, execSetTimers, unlessReset_released released, tickSelect_ofCode_none beyond]
  case limit =>
    obtain ⟨select, known⟩ := tickSelect_ofCode_some small
    rw [exec_setTimers_of_select released known, if_pos (by omega)]
  case lease =>
    obtain ⟨select, known⟩ := tickSelect_ofCode_some small
    rw [exec_setTimers_of_select released known, if_neg (by omega), if_pos long]

/-! ### SET_LINK (R176) -/

theorem exec_setLink (k : PortName) (n : Nat) (s : State) : exec (.setLink k n) s = execSetLink k n s := rfl

/-- Settles O12: the two codes of a byte order, then every other value. -/
theorem setLinkWritesItsOwnOrder : Obligations.SetLinkWritesItsOwnOrder := by
  intro s k n released
  rw [exec_setLink, execSetLink, unlessReset_released released]
  refine ⟨?_, ?_, fun beyond => ?_⟩
  · rintro rfl
    rfl
  · rintro rfl
    rfl
  · rw [byteOrderOf_none beyond]

end Sys2Proof.Machine
end

section
/-! PROOFS. The checks of a request frame, test by test (R173), for O8 and O10. -/

namespace Sys2Proof.Machine

/-! ### The parts of a frame -/

section
variable {bytes : List Byte}

theorem carriesRequest_iff :
    carriesRequest bytes = true ↔ bytes ≠ [] ∧ (bytes.getD 0 0).toNat ≠ 0 ∧ (bytes.getD 0 0).toNat ≠ 255 := by
  cases bytes with
  | nil => simp [carriesRequest]
  | cons b rest => simp [carriesRequest, BitVec.toNat_eq]

theorem frameWhole_iff : frameWhole bytes = true ↔
    3 ≤ bytes.length ∧ (bytes.getD 1 0).toNat ≤ 96 ∧ 3 + (bytes.getD 1 0).toNat ≤ bytes.length := by
  match bytes with
  | [] | [_] | [_, _] => simp [frameWhole]
  | _ :: _ :: _ :: _ => simp [frameWhole]

theorem frameSum_iff :
    byteSum (frameOf bytes) = 0 ↔ ((bytes.take (3 + (bytes.getD 1 0).toNat)).map BitVec.toNat).sum % 256 = 0 :=
  byteSum_eq_zero _

theorem goodCheck_iff :
    goodCheck bytes = true ↔ carriesRequest bytes = true ∧ frameWhole bytes = true ∧ byteSum (frameOf bytes) = 0 := by
  simp only [goodCheck, Bool.and_eq_true, beq_iff_eq, and_assoc]

/-- A whole frame holds the payload that its length byte gives. -/
theorem payloadOf_length (whole : frameWhole bytes = true) : (payloadOf bytes).length = (bytes.getD 1 0).toNat := by
  have := frameWhole_iff.mp whole
  rw [payloadOf, List.length_take, List.length_drop]
  omega

end

/-! ### The tables of the codes (11.6, 11.7) -/

theorem permitted_iff (k : PortName) (code : Nat) : permitted k code = true ↔ code ∈ codesOn k := by
  cases k <;> simp only [permitted, codesOn, Bool.or_eq_true, Bool.and_eq_true, decide_eq_true_eq, List.mem_cons,
    List.not_mem_nil, or_false] <;> omega

theorem codesOn_range {k : PortName} {code : Nat} (on : code ∈ codesOn k) : 1 ≤ code ∧ code ≤ 31 := by
  cases k <;> simp only [codesOn, List.mem_cons, List.not_mem_nil, or_false] at on <;> omega

/-- The fields of a payload take the bytes that the table of layouts gives; SET_LAYOUT's by its count. -/
theorem requestSizes_sum {code : Nat} (payload : List Byte) (low : 1 ≤ code) (high : code ≤ 31) :
    (requestSizes code payload).sum = payloadLength code (payload.headD 0).toNat := by
  match code, low, high with
  | 10, _, _ =>
    show (1 :: List.replicate (payload.headD 0).toNat 1).sum = 1 + (payload.headD 0).toNat
    rw [List.sum_cons, List.sum_replicate_nat, Nat.mul_one]
  | 1, _, _ | 2, _, _ | 3, _, _ | 4, _, _ | 5, _, _ | 6, _, _ | 7, _, _ | 8, _, _ | 9, _, _ | 11, _, _
  | 12, _, _ | 13, _, _ | 14, _, _ | 15, _, _ | 16, _, _ | 17, _, _ | 18, _, _ | 19, _, _ | 20, _, _ | 21, _, _
  | 22, _, _ | 23, _, _ | 24, _, _ | 25, _, _ | 26, _, _ | 27, _, _ | 28, _, _ | 29, _, _ | 30, _, _ | 31, _, _ => rfl
  | _ + 32, _, high => omega

/-- A code of the table reads every payload cut into its fields. -/
theorem requestOf_fieldValues {code : Nat} (k : PortName) (order : ByteOrder) (payload : List Byte) (low : 1 ≤ code)
    (high : code ≤ 31) : ∃ c, requestOf k code (fieldValues order (requestSizes code payload) payload) = some c := by
  match code, low, high with
  | 1, _, _ | 2, _, _ | 3, _, _ | 4, _, _ | 5, _, _ | 6, _, _ | 7, _, _ | 8, _, _ | 9, _, _ | 10, _, _
  | 11, _, _ | 12, _, _ | 13, _, _ | 14, _, _ | 15, _, _ | 16, _, _ | 17, _, _ | 18, _, _ | 19, _, _ | 20, _, _
  | 21, _, _ | 22, _, _ | 23, _, _ | 24, _, _ | 25, _, _ | 26, _, _ | 27, _, _ | 28, _, _ | 29, _, _ | 30, _, _
  | 31, _, _ => exact ⟨_, rfl⟩
  | _ + 32, _, high => omega

/-- The count that SET_LAYOUT's payload begins with stands third in the frame. -/
theorem payloadLength_head {bytes : List Byte} {code : Nat} (whole : frameWhole bytes = true) :
    (payloadOf bytes).length = payloadLength code ((payloadOf bytes).headD 0).toNat ↔
      (bytes.getD 1 0).toNat = payloadLength code (bytes.getD 2 0).toNat := by
  rw [payloadOf_length whole]
  by_cases empty : (bytes.getD 1 0).toNat = 0
  · simp only [empty, payloadLength]
    split
    · omega
    · rfl
  · have head : (payloadOf bytes).headD 0 = bytes.getD 2 0 := by
      obtain ⟨n, hn⟩ := Nat.exists_eq_succ_of_ne_zero empty
      rw [payloadOf, hn]
      simp [List.headD_eq_head?_getD, List.head?_take, List.head?_drop]
    rw [head]

/-! ### The four tests of R173 -/

section
variable {k : PortName} {order : ByteOrder} {bytes : List Byte}

theorem checkRequest_damaged (damaged : ¬(frameWhole bytes = true ∧ byteSum (frameOf bytes) = 0)) :
    checkRequest k order bytes = .badFrame := by
  by_cases whole : frameWhole bytes = true
  · have sum : byteSum (frameOf bytes) ≠ 0 := fun sum => damaged ⟨whole, sum⟩
    simp only [checkRequest, whole, Bool.not_true, Bool.false_eq_true, if_false, if_pos sum]
  · simp only [checkRequest, whole, Bool.not_false, if_true]

variable (whole : frameWhole bytes = true) (sum : byteSum (frameOf bytes) = 0)
include whole sum

theorem checkRequest_foreign (foreign : (bytes.headD 0).toNat ∉ codesOn k) :
    checkRequest k order bytes = .notPermitted := by
  have refused : permitted k (bytes.headD 0).toNat = false := by rwa [← Bool.not_eq_true, permitted_iff]
  simp only [checkRequest, whole, sum, refused, Bool.not_true, Bool.not_false, Bool.false_eq_true, ne_eq, not_true,
    if_false, if_true]

variable (on : (bytes.headD 0).toNat ∈ codesOn k)
include on

theorem checkRequest_length
    (length : (payloadOf bytes).length ≠ (requestSizes (bytes.headD 0).toNat (payloadOf bytes)).sum) :
    checkRequest k order bytes = .badFrame := by
  simp only [checkRequest, whole, sum, (permitted_iff ..).mpr on, length, Bool.not_true, Bool.false_eq_true, ne_eq,
    not_true, not_false_eq_true, if_false, if_true]

theorem checkRequest_dispatch {c : Instr}
    (length : (payloadOf bytes).length = (requestSizes (bytes.headD 0).toNat (payloadOf bytes)).sum)
    (read : requestOf k (bytes.headD 0).toNat
      (fieldValues order (requestSizes (bytes.headD 0).toNat (payloadOf bytes)) (payloadOf bytes)) = some c) :
    checkRequest k order bytes = .dispatch c := by
  simp only [checkRequest, whole, sum, (permitted_iff ..).mpr on, length, read, Bool.not_true, Bool.false_eq_true, ne_eq,
    not_true, if_false]

end

/-- Only a frame with a good check is dispatched. -/
theorem goodCheck_of_dispatch {k : PortName} {order : ByteOrder} {bytes : List Byte} {c : Instr}
    (carries : carriesRequest bytes = true) (dispatched : checkRequest k order bytes = .dispatch c) :
    goodCheck bytes = true := by
  refine goodCheck_iff.mpr ⟨carries, Classical.byContradiction fun damaged => ?_⟩
  rw [checkRequest_damaged damaged] at dispatched
  cases dispatched

/-- The tests of R173 by the tables of 11.6 and 11.7, for every string of bytes. -/
theorem checkRequest_tests (k : PortName) (order : ByteOrder) (bytes : List Byte) :
    let code := (bytes.getD 0 0).toNat
    let n := (bytes.getD 1 0).toNat
    let good := frameWhole bytes = true ∧ byteSum (frameOf bytes) = 0
    (¬good → checkRequest k order bytes = .badFrame) ∧
    (good → code ∉ codesOn k → checkRequest k order bytes = .notPermitted) ∧
    (good → code ∈ codesOn k → n ≠ payloadLength code (bytes.getD 2 0).toNat →
      checkRequest k order bytes = .badFrame) ∧
    (good → code ∈ codesOn k → n = payloadLength code (bytes.getD 2 0).toNat →
      ∃ c, checkRequest k order bytes = .dispatch c) := by
  intro code n good
  have head : (bytes.headD 0).toNat = code := by cases bytes <;> rfl
  have sizes (whole : frameWhole bytes = true) (on : code ∈ codesOn k) :
      (payloadOf bytes).length = (requestSizes code (payloadOf bytes)).sum ↔
        n = payloadLength code (bytes.getD 2 0).toNat := by
    obtain ⟨low, high⟩ := codesOn_range on
    rw [requestSizes_sum _ low high, payloadLength_head whole]
  rw [← head] at sizes ⊢
  refine ⟨checkRequest_damaged, fun ⟨whole, sum⟩ foreign => checkRequest_foreign whole sum foreign,
    fun ⟨whole, sum⟩ on wrong => checkRequest_length whole sum on fun length => wrong ((sizes whole on).mp length),
    fun ⟨whole, sum⟩ on right => ?_⟩
  obtain ⟨low, high⟩ := codesOn_range on
  obtain ⟨c, read⟩ := requestOf_fieldValues k order (payloadOf bytes) low high
  exact ⟨c, checkRequest_dispatch whole sum on ((sizes whole on).mpr right) read⟩

end Sys2Proof.Machine
end

section
/-! PROOFS. The transactions of the control and grading links: delivery (O6), dispatch (O7), requests turned away (O8) and BUSY (O9). -/

namespace Sys2Proof.Machine

/-! ### What a transaction does on its link (R172, R174, R178) -/

theorem onLink_congr {s : State} {k : PortName} {f g : Link → Link} (same : f (s.link k) = g (s.link k)) :
    s.onLink k f = s.onLink k g := by
  cases k <;> simp only [State.onLink, State.link] at same ⊢ <;> rw [same]

theorem onLink_self {s : State} {k : PortName} {f : Link → Link} (same : f (s.link k) = s.link k) : s.onLink k f = s := by
  rw [onLink_congr (g := id) same]
  cases k <;> rfl

section
variable {x : Link} {k : PortName} {o : Opening} {bytes : List Byte} {count : Nat}

theorem transact_busy (busy : o.isBusy k x.ready = true) :
    x.transact k o bytes = { x with shifted := (Reply.busy.bytes x.order).take bytes.length } :=
  if_pos busy

theorem transact_ready (ready : x.ready = true) :
    x.transact k .ready bytes = (x.deliver bytes.length).takeRequest k bytes :=
  if_neg (by simp [Opening.isBusy, ready])

theorem transact_overtaken : x.transact .grading .resetPart bytes =
    if carriesRequest bytes = true then { x with slot := x.slot.map Reply.marked } else x := rfl

/-- With no reply in the slot, or one shifted out whole, the delivery leaves the slot empty. -/
theorem deliver_empties (whole : x.slot = none ∨ x.outgoing.length ≤ count) :
    x.deliver count = { x with slot := none, shifted := x.outgoing.take count } := by
  rcases whole with none | whole
  · simp only [Link.deliver, none, ite_self]
  · simp only [Link.deliver, whole, if_true]

/-- A reply that is not shifted out whole stays in the slot. -/
theorem deliver_keeps (part : count < x.outgoing.length) :
    x.deliver count = { x with shifted := x.outgoing.take count } := by
  simp only [Link.deliver, Nat.not_le.mpr part, if_false]

theorem takeRequest_bare (bare : carriesRequest bytes = false) : x.takeRequest k bytes = x := if_pos bare

section
variable (carries : carriesRequest bytes = true)
include carries

theorem takeRequest_over {r : Reply} (undelivered : x.slot = some r) :
    x.takeRequest k bytes = { x with slot := some r.marked } := by
  simp [Link.takeRequest, carries, undelivered]

theorem takeRequest_badFrame (empty : x.slot = none) (bad : checkRequest k x.order bytes = .badFrame) :
    x.takeRequest k bytes = x.answerFrame .badFrame := by
  simp [Link.takeRequest, carries, empty, bad]

theorem takeRequest_notPermitted (empty : x.slot = none) (foreign : checkRequest k x.order bytes = .notPermitted) :
    x.takeRequest k bytes = x.answerFrame .notPermitted := by
  simp [Link.takeRequest, carries, empty, foreign]

theorem takeRequest_dispatch {c : Instr} (empty : x.slot = none) (passes : checkRequest k x.order bytes = .dispatch c) :
    x.takeRequest k bytes = { x with dispatched := some c } := by
  simp [Link.takeRequest, carries, empty, passes]

end

section
variable (ready : x.ready = true)
include ready

theorem transact_bare (bare : carriesRequest bytes = false) : x.transact k .ready bytes = x.deliver bytes.length :=
  (transact_ready ready).trans (takeRequest_bare bare)

/-- The request is taken over the slot that the delivery left empty, -/
theorem transact_emptied (delivered : x.slot = none ∨ x.outgoing.length ≤ bytes.length) :
    x.transact k .ready bytes =
      ({ x with slot := none, shifted := x.outgoing.take bytes.length } : Link).takeRequest k bytes := by
  rw [transact_ready ready, deliver_empties delivered]

/-- or over the reply that it left there. -/
theorem transact_undelivered (part : bytes.length < x.outgoing.length) :
    x.transact k .ready bytes = ({ x with shifted := x.outgoing.take bytes.length } : Link).takeRequest k bytes := by
  rw [transact_ready ready, deliver_keeps part]

end

end

/-! ### The transaction as a command -/

/-- What a frame's arrival makes of the lease: one on the grading link with a good check reloads it (R129). -/
def State.framed (s : State) (k : PortName) (bytes : List Byte) : State :=
  if k = .grading ∧ goodCheck bytes = true then s.reloadLease else s

section
variable {s : State} {k : PortName} {o : Opening} {bytes : List Byte}

@[simp] theorem framed_link (m : PortName) : (s.framed k bytes).link m = s.link m := by
  rw [State.framed]
  split
  · cases m <;> rfl
  · rfl

/-- A transaction that did not meet the RESET line is the frame's arrival and what its link makes of it. -/
theorem exec_linkTransaction (released : s.resetHeld = false) (opened : o ≠ .resetLine) {f : Link → Link}
    (transacts : (s.link k).transact k o bytes = f (s.link k)) :
    exec (.linkTransaction k o bytes) s = .next ((s.framed k bytes).onLink k f) := by
  have runs : exec (.linkTransaction k o bytes) s = execLinkTransaction k o bytes s := rfl
  have framed : (if decide (k = .grading) && goodCheck bytes then s.reloadLease else s) = s.framed k bytes := by
    simp only [State.framed, Bool.and_eq_true, decide_eq_true_eq]
  rw [runs, execLinkTransaction, unlessReset_released released, if_neg opened, State.transactLink, framed]
  exact congrArg _ (onLink_congr (by rw [framed_link, transacts]))

/-- A transaction with no request reloads no lease. -/
theorem framed_bare (bare : carriesRequest bytes = false) : s.framed k bytes = s :=
  if_neg (by simp [goodCheck, bare])

/-- A request that passes the tests came in a frame with a good check. -/
theorem framed_dispatch {order : ByteOrder} {c : Instr} (carries : carriesRequest bytes = true)
    (passes : checkRequest k order bytes = .dispatch c) :
    s.framed k bytes = if k = .grading then s.reloadLease else s := by
  simp only [State.framed, goodCheck_of_dispatch carries passes, and_true]

end

/-! ### Delivery (R171, R172) -/

/-- A reply frame, field by field. -/
theorem reply_bytes_checked (r : Reply) (order : ByteOrder) :
    let payload := r.payload.flatMap fun f => placed order f.size f.value
    Checked
      (BitVec.ofNat 8 (r.status.code + if r.ignored then 128 else 0) :: BitVec.ofNat 8 r.reason.code ::
        BitVec.ofNat 8 payload.length :: payload)
      (r.bytes order) := by
  have mark : (if r.ignored then 128 else 0) = 128 * r.ignored.toNat := by cases r.ignored <;> rfl
  have fields : WireField.bytes order = fun f => placed order f.size f.value :=
    funext (wireField_bytes_placed order)
  rw [mark, ← fields]
  exact checked_withCheck _

/-- Settles O6: the delivery alone, the frame's bytes, and the codes of the statuses and reasons. -/
theorem linkDeliversReply : Obligations.LinkDeliversReply := by
  refine ⟨fun s k bytes released ready bare => ?_, reply_bytes_checked, rfl, rfl⟩
  rw [exec_linkTransaction released (by decide) (f := fun x => x.deliver bytes.length)
    (transact_bare ready bare), framed_bare bare]
  rfl

/-! ### Dispatch (R173, R174) -/

/-- Settles O7: the delivery leaves the slot empty, and the request goes to its block. -/
theorem linkDispatchesRequest : Obligations.LinkDispatchesRequest := by
  intro s k bytes c released ready carries passes out delivered u
  have transacts : (s.link k).transact k .ready bytes =
      { s.link k with slot := none, dispatched := some c, shifted := (s.link k).outgoing.take bytes.length } :=
    (transact_emptied ready delivered).trans (takeRequest_dispatch carries rfl passes)
  rw [exec_linkTransaction released (by decide) (f := fun x =>
    { x with slot := none, dispatched := some c, shifted := out.take bytes.length }) transacts,
    framed_dispatch carries passes]
  rfl

/-! ### Requests turned away (R173, R178) -/

/-- A grading transaction that RESET_PART overtook marks the reply in the slot where it carried a request. -/
theorem exec_linkTransaction_overtaken {s : State} (bytes : List Byte) (released : s.resetHeld = false) :
    exec (.linkTransaction .grading .resetPart bytes) s = .next
      (if carriesRequest bytes = true then
        (s.framed .grading bytes).onLink .grading fun x => { x with slot := x.slot.map Reply.marked }
      else s.framed .grading bytes) := by
  rw [exec_linkTransaction released (by decide) (f := fun x => x.transact .grading .resetPart bytes) rfl]
  split
  case isTrue carries => exact congrArg _ (onLink_congr (transact_overtaken.trans (if_pos carries)))
  case isFalse bare => exact congrArg _ (onLink_self (transact_overtaken.trans (if_neg bare)))

/-- After RESET_PART the transaction that it overtook leaves RESET_DONE, with the mark where it carried a request. -/
theorem resetPart_overtakes {s : State} (bytes : List Byte) (released : s.resetHeld = false) :
    ∃ t v, exec .resetPart s = .next t ∧ exec (.linkTransaction .grading .resetPart bytes) t = .next v ∧
      v.link .grading = { Link.reset with slot := some { Reply.resetDone with ignored := carriesRequest bytes } } := by
  refine ⟨s.resetTo false, _, exec_resetPart released, exec_linkTransaction_overtaken bytes rfl, ?_⟩
  cases carries : carriesRequest bytes
  · rw [if_neg (by decide), framed_link, resetTo_link]
    rfl
  · rw [if_pos rfl, onLink_link, framed_link, resetTo_link]
    rfl

/-- Settles O8: the tests of R173, what turns a request away, and the transaction that RESET_PART overtook. -/
theorem linkTurnsRequestsAway : Obligations.LinkTurnsRequestsAway := by
  refine ⟨fun k order bytes => ?tests, fun s k bytes released ready carries => ?turned, fun s bytes released => ?overtaken,
    fun s bytes released => ?reset⟩
  case tests =>
    obtain ⟨damaged, foreign, wrong, right⟩ := checkRequest_tests k order bytes
    simp only [frameWhole_iff, frameSum_iff] at damaged foreign wrong right
    refine ⟨carriesRequest_iff, ?_, damaged, fun whole sound => foreign ⟨whole, sound⟩,
      fun whole sound => wrong ⟨whole, sound⟩, fun whole sound => right ⟨whole, sound⟩⟩
    rw [goodCheck_iff, frameWhole_iff, frameSum_iff]
  case turned =>
    have opened : Opening.ready ≠ .resetLine := by decide
    refine ⟨fun delivered => ⟨fun bad => ?_, fun foreign => ?_⟩, fun r undelivered part => ?_⟩
    · exact exec_linkTransaction released opened
        ((transact_emptied ready delivered).trans (takeRequest_badFrame carries rfl bad))
    · exact exec_linkTransaction released opened
        ((transact_emptied ready delivered).trans (takeRequest_notPermitted carries rfl foreign))
    · exact exec_linkTransaction released opened
        ((transact_undelivered ready part).trans (takeRequest_over carries undelivered))
  case overtaken =>
    have framed : s.framed .grading bytes = if goodCheck bytes = true then s.reloadLease else s := by
      simp only [State.framed, true_and]
    rw [exec_linkTransaction_overtaken bytes released, framed]
    rfl
  case reset =>
    obtain ⟨t, v, resets, transacts, link⟩ := resetPart_overtakes bytes released
    have grading : v.grading = _ := link
    refine ⟨t, v, resets, transacts, ?_, ?_⟩ <;> rw [grading] <;> rfl

/-! ### BUSY (R174) -/

/-- Settles O9: either opening is BUSY, and all it writes is what was shifted out. -/
theorem busyTransaction : Obligations.BusyTransaction := by
  intro s k o bytes released opening u
  have opened : o ≠ .resetLine := by
    rintro rfl
    simp at opening
  have busy : o.isBusy k (s.link k).ready = true := by
    rcases opening with rfl | ⟨rfl, inactive⟩
    · rfl
    · simp only [Opening.isBusy, inactive, Bool.not_false]
  exact exec_linkTransaction released opened (transact_busy busy)

end Sys2Proof.Machine
end

section
/-! PROOFS. Request frames read back as their requests: the control and grading links (O10) and the lookup link (O11). -/

namespace Sys2Proof.Machine

/-! ### Fields read back -/

/-- The number that a field's bytes spell when it is read back. -/
def WireField.read (f : WireField) : Nat := (f.value % (256 ^ f.size : Nat)).toNat

/-- The fields of a payload read back in their order, whatever bytes follow. -/
theorem fieldValues_flatMap (order : ByteOrder) (fields : List WireField) (rest : List Byte) :
    fieldValues order (fields.map WireField.size) (fields.flatMap (WireField.bytes order) ++ rest) =
      fields.map WireField.read := by
  induction fields with
  | nil => rfl
  | cons f fs ih =>
    simp only [List.map_cons, List.flatMap_cons, List.append_assoc]
    rw [fieldValues_cons _ _ _ _ _ (wireField_bytes_length order f), ih, fieldValue_bytes, WireField.read]

theorem flatMap_bytes_length (order : ByteOrder) (fields : List WireField) :
    (fields.flatMap (WireField.bytes order)).length = (fields.map WireField.size).sum := by
  simp only [List.length_flatMap, wireField_bytes_length]

theorem read_wire {k n : Nat} (fits : n < 256 ^ k) : (wire k n).read = n := by
  rw [WireField.read, ← fieldValue_bytes .msFirst, fieldValue_wire _ _ _ fits]

theorem read_byte {n : Nat} (fits : fitsByte n = true) : (wire 1 n).read = n := read_wire (of_decide_eq_true fits)

theorem read_two {n : Nat} (fits : fitsTwo n = true) : (wire 2 n).read = n := read_wire (of_decide_eq_true fits)

theorem read_three {n : Nat} (fits : fitsThree n = true) : (wire 3 n).read = n := read_wire (of_decide_eq_true fits)

theorem read_four {n : Nat} (fits : fitsFour n = true) : (wire 4 n).read = n := read_wire (of_decide_eq_true fits)

/-- Two's complement reads back. -/
theorem signed16_read {v : Int} (fits : fitsSigned v = true) : signed16 (wire 2 v).read = v := by
  simp only [fitsSigned, Bool.and_eq_true, decide_eq_true_eq] at fits
  have residue : (wire 2 v).read = (v % 65536).toNat := rfl
  rw [residue, signed16]
  split <;> omega

theorem carriesRequest_of_head {bytes : List Byte} (low : (bytes.headD 0).toNat ≠ 0) (high : (bytes.headD 0).toNat ≠ 255) :
    carriesRequest bytes = true := by
  cases bytes with
  | nil => exact absurd rfl low
  | cons b rest => exact carriesRequest_iff.mpr ⟨List.cons_ne_nil b rest, low, high⟩

/-! ### A frame of the control and grading links (R173) -/

section
variable (order : ByteOrder) {code : Nat} {fields : List WireField}
  (short : (fields.map WireField.size).sum ≤ 96)

theorem frameBytes_head (high : code ≤ 31) : ((frameBytes order code fields).headD 0).toNat = code := by
  show code % 256 = code
  omega

include short

theorem frameBytes_lengthByte :
    ((frameBytes order code fields).getD 1 0).toNat = (fields.flatMap (WireField.bytes order)).length := by
  show (fields.flatMap (WireField.bytes order)).length % 256 = _
  rw [flatMap_bytes_length]
  omega

theorem frameBytes_length :
    (frameBytes order code fields).length = 3 + ((frameBytes order code fields).getD 1 0).toNat := by
  rw [frameBytes_lengthByte order short]
  simp only [frameBytes, withCheck_length, List.length_cons]
  omega

theorem frameBytes_whole : frameWhole (frameBytes order code fields) = true := by
  have length := frameBytes_length (code := code) order short
  have payload := frameBytes_lengthByte (code := code) order short
  rw [flatMap_bytes_length] at payload
  exact frameWhole_iff.mpr (by omega)

/-- The frame is no longer than its length byte gives, so its sum is that of all its bytes. -/
theorem frameBytes_sum : byteSum (frameOf (frameBytes order code fields)) = 0 := by
  rw [frameOf, ← frameBytes_length order short, List.take_length]
  exact byteSum_withCheck _

theorem frameBytes_payload : payloadOf (frameBytes order code fields) = fields.flatMap (WireField.bytes order) := by
  rw [payloadOf, frameBytes_lengthByte order short]
  exact List.take_left

end

/-- What makes a frame of a code and its fields the frame of a request: the code is one of the link's, the fields have the sizes of the code's layout, and their values spell the request. -/
structure Spells (order : ByteOrder) (k : PortName) (code : Nat) (fields : List WireField) (c : Instr) : Prop where
  on : code ∈ codesOn k
  sizes : requestSizes code (fields.flatMap (WireField.bytes order)) = fields.map WireField.size
  short : (fields.map WireField.size).sum ≤ 96
  reads : requestOf k code (fields.map WireField.read) = some c

/-- A frame that spells a request reads back as that request. -/
theorem checkRequest_frameBytes {order : ByteOrder} {k : PortName} {code : Nat} {fields : List WireField} {c : Instr}
    (spells : Spells order k code fields c) :
    carriesRequest (frameBytes order code fields) = true ∧ goodCheck (frameBytes order code fields) = true ∧
      checkRequest k order (frameBytes order code fields) = .dispatch c := by
  obtain ⟨on, sizes, short, reads⟩ := spells
  obtain ⟨low, high⟩ := codesOn_range on
  have head := frameBytes_head (fields := fields) order high
  have payload := frameBytes_payload (code := code) order short
  have whole := frameBytes_whole (code := code) order short
  have sum := frameBytes_sum (code := code) order short
  have carries : carriesRequest (frameBytes order code fields) = true :=
    carriesRequest_of_head (by omega) (by omega)
  have values := fieldValues_flatMap order fields []
  rw [List.append_nil] at values
  refine ⟨carries, goodCheck_iff.mpr ⟨carries, whole, sum⟩, checkRequest_dispatch whole sum (head.symm ▸ on) ?_ ?_⟩
  · rw [head, payload, sizes, flatMap_bytes_length]
  · rw [head, payload, sizes, values, reads]

/-! ### Every request (11.6, 11.7) -/

/-- A code up to 25 is a code of its one link, -/
theorem mem_codesOn_own {code : Nat} (low : 1 ≤ code) (high : code ≤ 25) :
    code ∈ codesOn (if code ≤ 16 then .control else .grading) := by
  rw [← permitted_iff]
  split <;> simp [permitted] <;> omega

/-- and one from 26 to 31 of both. -/
theorem mem_codesOn_both {code : Nat} (k : PortName) (low : 26 ≤ code) (high : code ≤ 31) : code ∈ codesOn k := by
  rw [← permitted_iff]
  cases k <;> simp [permitted] <;> omega

theorem wire_byte_bytes (order : ByteOrder) (n : Nat) : (wire 1 n).bytes order = [BitVec.ofNat 8 n] := by
  cases order <;> simp [wireField_bytes_eq, wire]

theorem map_byte_size (codes : List Nat) :
    (codes.map fun (c : Nat) => wire 1 c).map WireField.size = List.replicate codes.length 1 := by
  rw [List.map_map]
  exact List.map_const' ..

/-- SET_LAYOUT: its count byte gives the number of its codes. -/
theorem setLayout_spells (order : ByteOrder) {codes : List Nat} (few : codes.length < 96)
    (fit : codes.all fitsByte = true) :
    Spells order .control 10 (wire 1 codes.length :: codes.map fun (c : Nat) => wire 1 c) (.setLayout codes) where
  on := by decide
  sizes := by
    have head : (((wire 1 codes.length :: codes.map fun (c : Nat) => wire 1 c).flatMap
        (WireField.bytes order)).headD 0).toNat = codes.length := by
      rw [List.flatMap_cons, wire_byte_bytes]
      show codes.length % 256 = codes.length
      omega
    rw [requestSizes, head, List.map_cons, map_byte_size]
    rfl
  short := by
    rw [List.map_cons, map_byte_size, List.sum_cons, List.sum_replicate_nat]
    simp only [wire]
    omega
  reads := by
    have codes_read : (codes.map fun (c : Nat) => (wire 1 c).read) = codes :=
      (List.map_congr_left fun c hc => read_byte (List.all_eq_true.mp fit c hc)).trans (List.map_id codes)
    refine congrArg some (congrArg Instr.setLayout ?_)
    rw [List.map_map]
    exact codes_read

/-- The fields of 11.7 spell the request, on the link that 11.6 gives it. -/
theorem requestFields_spell (order : ByteOrder) {c : Instr} {k : PortName} {code : Nat} {fields : List WireField}
    (wf : c.wellFormed = true) (carrier : requestLink c = some k) (carried : requestFields c = some (code, fields)) :
    Spells order k code fields c := by
  cases c with
  | powerOn | resetLine | linkTransaction | lookupLinkTransaction | lookup | summary | perf | splice | travel | runout
  | malformedGateWord | gradeCompletion | deferralTick | deferralExpiry | leaseTick | leaseExpiry => cases carried
  | setLayout codes =>
    cases carried
    cases carrier
    obtain ⟨few, fit⟩ := (Bool.and_eq_true ..).mp wf
    exact setLayout_spells order (of_decide_eq_true few) fit
  | regrade link | readSegment link | listReel link | readNotices link | clearNotice link | setLink link =>
    cases carried
    cases carrier
    refine ⟨mem_codesOn_both k (by decide) (by decide), rfl, by simp [wire], congrArg some ?_⟩
    simp only [Instr.wellFormed, Bool.and_eq_true] at wf
    simp only [read_byte, read_three, wf]
  | _ =>
    cases carried
    cases carrier
    refine ⟨mem_codesOn_own (by omega) (by omega), rfl, by simp [wire], congrArg some ?_⟩
    simp only [Instr.wellFormed, ProfileFields.wellFormed, Rgb.all, Bool.and_eq_true] at wf
    simp only [read_byte, read_two, read_three, read_four, signed16_read, wf]

/-- Settles O10: a frame is its code and fields laid out, and these spell the request. -/
theorem requestFramesReadBack : Obligations.RequestFramesReadBack := by
  intro c k order bytes wf carrier framed
  obtain ⟨⟨code, fields⟩, carried, rfl⟩ := Option.map_eq_some_iff.mp framed
  exact checkRequest_frameBytes (requestFields_spell order wf carrier carried)

/-! ### The frames of the lookup link (R175) -/

/-- A frame is its type, its fields and its check byte: it sums to 0, and its fields read back. -/
theorem lookupFrame_fields (order : ByteOrder) (type : Byte) (fields : List WireField) :
    let bytes := withCheck (type :: fields.flatMap (WireField.bytes order))
    Sound bytes ((fields.map WireField.size).sum + 2) ∧
      fieldValues order (fields.map WireField.size) (bytes.drop 1) = fields.map WireField.read := by
  intro bytes
  have length : bytes.length = (fields.map WireField.size).sum + 2 := by
    rw [withCheck_length, List.length_cons, flatMap_bytes_length]
  refine ⟨?_, fieldValues_flatMap order fields _⟩
  rw [Sound, ← byteSum_eq_zero, ← length, List.take_length]
  exact ⟨Nat.le_refl _, byteSum_withCheck _⟩

section
variable {order : ByteOrder} {bytes : List Byte}

theorem lookupRequest_of_lookup {tag lane frame : Nat} (type : bytes.head? = some 1) (sound : Sound bytes 8)
    (values : fieldValues order [2, 1, 3] (bytes.drop 1) = [tag, lane, frame]) :
    lookupRequest order bytes = some (.lookup tag lane frame) := by
  have code : (bytes.headD 0).toNat = 1 := headD_of_head type
  simp only [lookupRequest, code, unsound_iff, not_not_intro sound, if_false, values]

theorem lookupRequest_of_summary {lane frame : Nat} {black white mean : Rgb Nat} (type : bytes.head? = some 2)
    (sound : Sound bytes 24)
    (values : fieldValues order [1, 3, 2, 2, 2, 2, 2, 2, 2, 2, 2] (bytes.drop 1) =
      [lane, frame, black.r, black.g, black.b, white.r, white.g, white.b, mean.r, mean.g, mean.b]) :
    lookupRequest order bytes = some (.summary lane frame black white mean) := by
  have code : (bytes.headD 0).toNat = 2 := headD_of_head type
  simp only [lookupRequest, code, unsound_iff, not_not_intro sound, if_false, values]

end

/-- Settles O11: a LOOKUP's 8 bytes and a SUMMARY's 24, field by field. -/
theorem lookupFramesReadBack : Obligations.LookupFramesReadBack := by
  intro c order bytes wf framed
  cases c with
  | lookup tag lane frame =>
    cases framed
    simp only [Instr.wellFormed, Bool.and_eq_true] at wf
    obtain ⟨sound, values⟩ := lookupFrame_fields order 1 [wire 2 tag, wire 1 lane, wire 3 frame]
    simp only [List.map_cons, List.map_nil, read_byte, read_two, read_three, wf] at values
    exact ⟨rfl, lookupRequest_of_lookup rfl sound values⟩
  | summary lane frame black white mean =>
    cases framed
    simp only [Instr.wellFormed, Rgb.all, Bool.and_eq_true] at wf
    obtain ⟨sound, values⟩ := lookupFrame_fields order 2 [wire 1 lane, wire 3 frame, wire 2 black.r, wire 2 black.g,
      wire 2 black.b, wire 2 white.r, wire 2 white.g, wire 2 white.b, wire 2 mean.r, wire 2 mean.g, wire 2 mean.b]
    simp only [List.map_cons, List.map_nil, read_byte, read_two, read_three, wf] at values
    exact ⟨rfl, lookupRequest_of_summary rfl sound values⟩
  | _ => cases framed

end Sys2Proof.Machine
end

section
/-! PROOFS. The queue of commands: a step takes its front (O1), and no command's effect touches it (O3). -/

namespace Sys2Proof.Machine

/-! ### The front of the queue -/

/-- Settles O1: the first branch of the step. -/
theorem stepRunsTheFrontCommand : Obligations.StepRunsTheFrontCommand := by
  intro c rest s queue
  simp only [step, queue]

/-! ### Shared operations leave the queue alone -/

theorem pending_of_settings {s t : State} (h : t.settings = s.settings) : t.pending = s.pending :=
  congrArg Settings.pending h

section
variable (s : State)

@[simp] theorem reply_pending (k : PortName) (status : ReplyStatus) (reason : Reason) (payload : List WireField) :
    (s.reply k status reason payload).pending = s.pending := onLink_pending s k _

@[simp] theorem ok_pending (k : PortName) (payload : List WireField) : (s.ok k payload).pending = s.pending :=
  reply_pending s k _ _ _

@[simp] theorem refuse_pending (k : PortName) (reason : Reason) : (s.refuse k reason).pending = s.pending :=
  reply_pending s k _ _ _

@[simp] theorem refuseValue_pending (k : PortName) (number : Nat) : (s.refuseValue k number).pending = s.pending :=
  reply_pending s k _ _ _

@[simp] theorem recheck_pending (concerned : Deferral → Bool) : (s.recheck concerned).pending = s.pending := rfl

@[simp] theorem engineBegin_pending : s.engineBegin.pending = s.pending := pending_of_settings (engineBegin_settings s)

@[simp] theorem freeSlot_pending (i : Slot) : (s.freeSlot i).pending = s.pending :=
  pending_of_settings (freeSlot_settings s i)

@[simp] theorem retire_pending (named : Slot → Bool) : (s.retire named).pending = s.pending :=
  pending_of_settings (retire_settings s named)

@[simp] theorem setStatus_pending (x : LinkStatus) : (s.setStatus x).pending = s.pending := rfl

/-- A fold of operations that leave the queue alone leaves it alone. -/
theorem foldl_pending {α : Type} (f : State → α → State) (h : ∀ s a, (f s a).pending = s.pending) (xs : List α) :
    (xs.foldl f s).pending = s.pending :=
  List.foldlRecOn (motive := fun t => t.pending = s.pending) xs f rfl fun t ht a _ => (h t a).trans ht

/-! ### The tests that commands share -/

section
variable {s}

theorem withLane_pending (lane : Nat) {act : Lane → State} (h : ∀ l, (act l).pending = s.pending) :
    (s.withLane lane act).pending = s.pending := by
  simp only [State.withLane]
  split
  · exact refuse_pending s _ _
  · exact h _

theorem withSegment_pending (k : PortName) (slot : Nat) {act : Slot → Segment → State}
    (h : ∀ i r, (act i r).pending = s.pending) : (s.withSegment k slot act).pending = s.pending := by
  simp only [State.withSegment]
  split
  · exact refuse_pending s _ _
  · split
    · exact refuse_pending s _ _
    · exact h _ _

theorem withOwned_pending (slot : Nat) {act : Slot → Segment → State} (h : ∀ i r, (act i r).pending = s.pending) :
    (s.withOwned slot act).pending = s.pending := by
  refine withSegment_pending _ slot fun i r => ?_
  split
  · exact h i r
  · exact refuse_pending s _ _

theorem withFreeProfile_pending (number : Nat) {act : ProfileNo → State} (h : ∀ p, (act p).pending = s.pending) :
    (s.withFreeProfile number act).pending = s.pending := by
  simp only [State.withFreeProfile]
  split
  · exact refuse_pending s _ _
  · split
    · exact refuse_pending s _ _
    · exact h _

theorem writePolicy_pending (enable route hold : Nat) (partWide : Bool) {write : Policy → State}
    (h : ∀ p, (write p).pending = s.pending) :
    (s.writePolicy enable route hold partWide write).pending = s.pending := by
  simp only [State.writePolicy]
  repeat' split
  all_goals simp only [refuseValue_pending, ok_pending, h]

end

/-! ### The reel commands (chapters 2 and 9) -/

@[simp] theorem loadProfile_pending (l : Lane) (tag : Nat) (gauge : Gauge) (profile cadence : Nat) :
    (s.loadProfile l tag gauge profile cadence).pending = s.pending := by
  simp only [State.loadProfile]
  repeat' split
  all_goals simp

@[simp] theorem startLane_pending (l : Lane) : (s.startLane l).pending = s.pending := rfl

@[simp] theorem pauseLane_pending (l : Lane) : (s.pauseLane l).pending = s.pending := rfl

@[simp] theorem resumeLane_pending (l : Lane) : (s.resumeLane l).pending = s.pending := rfl

@[simp] theorem unloadLoaded_pending (l : Lane) : (s.unloadLoaded l).pending = s.pending := rfl

@[simp] theorem closeReel_pending (l : Lane) : (s.closeReel l).pending = s.pending :=
  pending_of_settings (closeReel_settings s l)

@[simp] theorem laneReset_pending (l : Lane) : (s.laneReset l).pending = s.pending := by
  simp only [State.laneReset, engineBegin_pending, onLane_pending]
  exact foldl_pending _ State.freeSlot freeSlot_pending _

/-! ### Profiles and settings (R35-R39, R149, R150, R165, R166, R177) -/

@[simp] theorem setProfile_pending (p : ProfileNo) (f : Profile → Profile) : (s.setProfile p f).pending = s.pending :=
  rfl

@[simp] theorem disableLink_pending : s.disableLink.pending = s.pending := retire_pending _ _

@[simp] theorem setLookupLink_pending (enable : Bool) (order : ByteOrder) :
    (s.setLookupLink enable order).pending = s.pending := by
  simp only [State.setLookupLink]
  repeat' split
  all_goals simp

@[simp] theorem setPartPolicy_pending (k : Fin 5) (p : Policy) : (s.setPartPolicy k p).pending = s.pending := rfl

@[simp] theorem setLanePolicy_pending (lanes : List Lane) (k : Fin 11) (p : Policy) :
    (s.setLanePolicy lanes k p).pending = s.pending :=
  foldl_pending s (fun s l => s.onLane l fun d => { d with policies := update d.policies k fun _ => p }) (fun _ _ => rfl)
    lanes

@[simp] theorem setTimers_pending (tick : TickSelect) (limit lease : Nat) :
    (s.setTimers tick limit lease).pending = s.pending := rfl

@[simp] theorem clearNotices_pending (link : PortName) (lanes : List Lane) (mask : Nat) :
    (s.clearNotices link lanes mask).pending = s.pending :=
  foldl_pending s (fun s l => s.onLane l fun d => d.clearNotices link mask) (fun _ _ => rfl) lanes

/-! ### The console's requests and the lease (chapter 7) -/

@[simp] theorem reloadLease_pending : s.reloadLease.pending = s.pending := rfl

@[simp] theorem dropHolds_pending (named : Slot → Bool) (notice : PartKind) (slot : Option Slot) :
    (s.dropHolds named notice slot).pending = s.pending := by
  simp only [State.dropHolds]
  split
  · simp
  · rfl

@[simp] theorem leaseExpiry_pending : s.leaseExpiry.pending = s.pending := dropHolds_pending _ _ _ _

@[simp] theorem leaseTick_pending : s.leaseTick.pending = s.pending := by
  simp only [State.leaseTick]
  split
  · rfl
  · split
    · exact leaseExpiry_pending s
    · rfl

@[simp] theorem takeSegment_pending (i : Slot) (r : Segment) : (s.takeSegment i r).pending = s.pending := by
  simp only [State.takeSegment]
  split
  case h_4 =>
    split
    · simp
    · simp [State.takeQueued]
  all_goals simp

@[simp] theorem consoleWrite_pending (i : Slot) (r : Segment) : (s.consoleWrite i r).pending = s.pending :=
  ok_pending _ _ _

theorem allocate_pending {t : State} {l : Lane} {j : Slot} (h : s.allocate l = some (j, t)) : t.pending = s.pending :=
  pending_of_settings (allocate_settings s l h)

@[simp] theorem cutSegment_pending (i j : Slot) (a : Segment) (f : Nat) :
    (s.cutSegment i j a f).pending = s.pending := by
  simp only [State.cutSegment, recheck_pending]
  split <;> rfl

@[simp] theorem joinSegments_pending (i j : Slot) (a b : Segment) : (s.joinSegments i j a b).pending = s.pending :=
  freeSlot_pending _ j

/-! ### The links (R147, R172) -/

@[simp] theorem transactLink_pending (k : PortName) (o : Opening) (bytes : List Byte) :
    (s.transactLink k o bytes).pending = s.pending := by
  simp only [State.transactLink, onLink_pending]
  split <;> rfl

@[simp] theorem placeLookup_pending (tag : Nat) (l : Lane) (f : Nat) : (s.placeLookup tag l f).pending = s.pending := by
  simp only [State.placeLookup, State.pushAnswer]
  repeat' split
  all_goals rfl

@[simp] theorem takeLookup_pending (tag lane frame : Nat) : (s.takeLookup tag lane frame).pending = s.pending := by
  simp only [State.takeLookup]
  repeat' split
  all_goals simp

@[simp] theorem arrive_pending (l : Lane) (c : Candidate) : (s.arrive l c).pending = s.pending :=
  pending_of_settings (arrive_settings s l c)

@[simp] theorem densityWatch_pending (l : Lane) (f : Nat) (mean : Rgb Nat) :
    (s.densityWatch l f mean).pending = s.pending := by
  simp only [State.densityWatch]
  repeat' split
  all_goals simp

@[simp] theorem addToSegment_pending (i : Slot) (r : Segment) (black white mean : Rgb Nat) :
    (s.addToSegment i r black white mean).pending = s.pending := by
  simp only [State.addToSegment]
  split
  · exact pending_of_settings ((revise_settings ..).trans (accumulate_settings ..))
  · rfl

@[simp] theorem routeSummary_pending (l : Lane) (f : Nat) (black white mean : Rgb Nat) :
    (s.routeSummary l f black white mean).pending = s.pending := by
  simp only [State.routeSummary]
  repeat' split
  all_goals simp

@[simp] theorem takeSummary_pending (lane frame : Nat) (black white mean : Rgb Nat) :
    (s.takeSummary lane frame black white mean).pending = s.pending := by
  simp only [State.takeSummary]
  repeat' split
  all_goals simp

@[simp] theorem takeShiftedIn_pending (o : LookupOpening) (order : ByteOrder) (bytes : List Byte) :
    (s.takeShiftedIn o order bytes).pending = s.pending := by
  simp only [State.takeShiftedIn, State.takeWhole]
  repeat' split
  all_goals simp

@[simp] theorem transactLookup_pending (o : LookupOpening) (bytes : List Byte) :
    (s.transactLookup o bytes).pending = s.pending := takeShiftedIn_pending _ _ _ _

/-! ### Gate words (R42) -/

section
variable (l : Lane) (position : Nat)

@[simp] theorem faultWord_pending : (s.faultWord l).pending = s.pending := pending_of_settings (faultWord_settings s l)

@[simp] theorem perfWord_pending (strength : Nat) : (s.perfWord l position strength).pending = s.pending :=
  pending_of_settings (perfWord_settings s l position strength)

@[simp] theorem spliceWord_pending (kind : Nat) : (s.spliceWord l position kind).pending = s.pending :=
  pending_of_settings (spliceWord_settings s l position kind)

@[simp] theorem travelWord_pending : (s.travelWord l position).pending = s.pending :=
  pending_of_settings (travelWord_settings s l position)

@[simp] theorem runoutWord_pending : (s.runoutWord l position).pending = s.pending :=
  pending_of_settings (runoutWord_settings s l position)

end

/-! ### The engine's end and the ticks (R105-R107, R141, R142) -/

@[simp] theorem completionNotices_pending (i : Slot) (r : Segment) : (s.completionNotices i r).pending = s.pending := by
  simp only [State.completionNotices]
  repeat' split
  all_goals rfl

@[simp] theorem complete_pending : s.complete.pending = s.pending := by
  simp only [State.complete]
  split
  · rfl
  · split <;> simp

@[simp] theorem expireEntry_pending (e : Deferral) : (s.expireEntry e).pending = s.pending := retire_pending _ _

@[simp] theorem expire_pending : s.expire.pending = s.pending := by
  simp only [State.expire]
  split
  · rfl
  · exact expireEntry_pending s _

@[simp] theorem deferralTick_pending : s.deferralTick.pending = s.pending :=
  foldl_pending s State.expireEntry expireEntry_pending _

end

/-! ### Every command -/

/-- A result that is a next state, with the queue of commands as `s` has it. -/
def Result.KeepsQueue (s : State) (x : Result) : Prop := ∃ t, x = .next t ∧ t.pending = s.pending

section
variable {s : State}

theorem unlessReset_keepsQueue {act : State → State} (h : (act s).pending = s.pending) :
    Result.KeepsQueue s (s.unlessReset act) := by
  refine ⟨_, rfl, ?_⟩
  split
  · rfl
  · exact h

/-! ### The reel commands, one by one -/

theorem execLoadReel_keepsQueue (lane tag gauge profile cadence : Nat) :
    Result.KeepsQueue s (execLoadReel lane tag gauge profile cadence s) := by
  refine unlessReset_keepsQueue (withLane_pending lane fun l => ?_)
  split
  · exact refuse_pending s _ _
  · split
    · exact refuseValue_pending s _ _
    · split <;> simp

theorem execStart_keepsQueue (lane : Nat) : Result.KeepsQueue s (execStart lane s) :=
  unlessReset_keepsQueue <| withLane_pending lane fun l => by split <;> simp

theorem execPause_keepsQueue (lane : Nat) : Result.KeepsQueue s (execPause lane s) :=
  unlessReset_keepsQueue <| withLane_pending lane fun l => by split <;> simp

theorem execResume_keepsQueue (lane : Nat) : Result.KeepsQueue s (execResume lane s) :=
  unlessReset_keepsQueue <| withLane_pending lane fun l => by split <;> simp

theorem execUnload_keepsQueue (lane : Nat) : Result.KeepsQueue s (execUnload lane s) :=
  unlessReset_keepsQueue <| withLane_pending lane fun l => by split <;> simp

theorem execLaneReset_keepsQueue (lane : Nat) : Result.KeepsQueue s (execLaneReset lane s) :=
  unlessReset_keepsQueue <| withLane_pending lane fun l => by simp

/-! ### Profiles and settings, one by one -/

theorem execSetProfile_keepsQueue (number : Nat) (fields : ProfileFields) :
    Result.KeepsQueue s (execSetProfile number fields s) :=
  unlessReset_keepsQueue <| withFreeProfile_pending number fun p => by split <;> simp

theorem execInvalidateProfile_keepsQueue (number : Nat) : Result.KeepsQueue s (execInvalidateProfile number s) :=
  unlessReset_keepsQueue <| withFreeProfile_pending number fun p => by simp

theorem execSetLayout_keepsQueue (codes : List Nat) : Result.KeepsQueue s (execSetLayout codes s) := by
  refine unlessReset_keepsQueue ?_
  split
  · exact refuse_pending s _ _
  · split
    · exact refuseValue_pending s _ _
    · split <;> simp

theorem execSetLookupLink_keepsQueue (enable order : Nat) :
    Result.KeepsQueue s (execSetLookupLink enable order s) := by
  refine unlessReset_keepsQueue ?_
  split
  · exact refuseValue_pending s _ _
  · split <;> simp

theorem execSetPolicy_keepsQueue (lane kind enable route hold : Nat) :
    Result.KeepsQueue s (execSetPolicy lane kind enable route hold s) := by
  refine unlessReset_keepsQueue ?_
  split
  · exact refuseValue_pending s _ _
  · exact writePolicy_pending _ _ _ _ fun p => setPartPolicy_pending s _ p
  · split
    · exact refuse_pending s _ _
    · exact writePolicy_pending _ _ _ _ fun p => setLanePolicy_pending s _ _ p

theorem execSetTimers_keepsQueue (tick limit lease : Nat) :
    Result.KeepsQueue s (execSetTimers tick limit lease s) := by
  refine unlessReset_keepsQueue ?_
  split
  · exact refuseValue_pending s _ _
  · split
    · exact refuseValue_pending s _ _
    · split <;> simp

theorem execClearNotice_keepsQueue (link : PortName) (lane mask : Nat) :
    Result.KeepsQueue s (execClearNotice link lane mask s) := by
  refine unlessReset_keepsQueue ?_
  split
  · exact refuse_pending s _ _
  · split
    · exact refuseValue_pending s _ _
    · rw [ok_pending, clearNotices_pending]

/-! ### The console's requests, one by one -/

theorem execTake_keepsQueue (slot : Nat) : Result.KeepsQueue s (execTake slot s) := by
  refine unlessReset_keepsQueue (withSegment_pending _ slot fun i r => ?_)
  split
  · exact refuse_pending s _ _
  · split
    · exact refuse_pending s _ _
    · split <;> simp

theorem execRelease_keepsQueue (slot : Nat) : Result.KeepsQueue s (execRelease slot s) :=
  unlessReset_keepsQueue <| withSegment_pending _ slot fun i r => by split <;> simp

theorem execForceRelease_keepsQueue (slot : Nat) : Result.KeepsQueue s (execForceRelease slot s) := by
  refine unlessReset_keepsQueue ?_
  split
  · simp
  · exact withSegment_pending _ slot fun i r => by split <;> simp

theorem execRenew_keepsQueue : Result.KeepsQueue s (execRenew s) :=
  unlessReset_keepsQueue <| by rw [ok_pending]; split <;> rfl

theorem execSetGrade_keepsQueue (slot : Nat) (lift : Rgb Int) (gain : Rgb Nat) (fade : Nat) :
    Result.KeepsQueue s (execSetGrade slot lift gain fade s) :=
  unlessReset_keepsQueue <| withOwned_pending slot fun i r => by split <;> simp

theorem execSetOffset_keepsQueue (slot : Nat) (along across : Int) :
    Result.KeepsQueue s (execSetOffset slot along across s) := by
  refine unlessReset_keepsQueue (withOwned_pending slot fun i r => ?_)
  split
  · exact refuseValue_pending s _ _
  · split <;> simp

theorem execSetLamp_keepsQueue (slot lamp : Nat) : Result.KeepsQueue s (execSetLamp slot lamp s) :=
  unlessReset_keepsQueue <| withOwned_pending slot fun i r => by split <;> simp

theorem execSetCadence_keepsQueue (slot cadence : Nat) : Result.KeepsQueue s (execSetCadence slot cadence s) :=
  unlessReset_keepsQueue <| withOwned_pending slot fun i r => by split <;> simp

theorem execCut_keepsQueue (slot frame : Nat) : Result.KeepsQueue s (execCut slot frame s) := by
  refine unlessReset_keepsQueue (withSegment_pending _ slot fun i a => ?_)
  split
  · exact refuse_pending s _ _
  · split
    · exact refuse_pending s _ _
    · split
      · exact refuse_pending s _ _
      · split
        · exact refuse_pending s _ _
        · rename_i allocated
          rw [ok_pending, cutSegment_pending, allocate_pending s allocated]

theorem execJoin_keepsQueue (slot : Nat) : Result.KeepsQueue s (execJoin slot s) := by
  refine unlessReset_keepsQueue (withSegment_pending _ slot fun i a => ?_)
  split
  · exact refuse_pending s _ _
  · split
    · exact refuse_pending s _ _
    · split
      · exact refuse_pending s _ _
      · split <;> simp

theorem execRegrade_keepsQueue (k : PortName) (slot : Nat) : Result.KeepsQueue s (execRegrade k slot s) := by
  refine unlessReset_keepsQueue (withSegment_pending k slot fun i r => ?_)
  split
  · exact refuse_pending s _ _
  · split
    · exact refuse_pending s _ _
    · split
      · exact refuse_pending s _ _
      · split <;> simp

/-! ### The reads and the links, one by one -/

theorem execReadProfile_keepsQueue (number : Nat) : Result.KeepsQueue s (execReadProfile number s) :=
  unlessReset_keepsQueue <| by split <;> simp

theorem execReadLane_keepsQueue (lane : Nat) : Result.KeepsQueue s (execReadLane lane s) :=
  unlessReset_keepsQueue <| by split <;> simp

theorem execReadSegment_keepsQueue (k : PortName) (slot : Nat) : Result.KeepsQueue s (execReadSegment k slot s) := by
  refine unlessReset_keepsQueue ?_
  split
  · exact refuse_pending s _ _
  · split <;> exact ok_pending s _ _

theorem execListReel_keepsQueue (k : PortName) (lane position : Nat) :
    Result.KeepsQueue s (execListReel k lane position s) :=
  unlessReset_keepsQueue <| by split <;> simp

theorem execReadNotices_keepsQueue (k : PortName) (lane : Nat) : Result.KeepsQueue s (execReadNotices k lane s) :=
  unlessReset_keepsQueue <| by split <;> simp

theorem execLinkTransaction_keepsQueue (k : PortName) (o : Opening) (bytes : List Byte) :
    Result.KeepsQueue s (execLinkTransaction k o bytes s) :=
  unlessReset_keepsQueue <| by split <;> simp

theorem execSetLink_keepsQueue (k : PortName) (order : Nat) : Result.KeepsQueue s (execSetLink k order s) :=
  unlessReset_keepsQueue <| by split <;> simp

theorem execLookupLinkTransaction_keepsQueue (o : LookupOpening) (bytes : List Byte) :
    Result.KeepsQueue s (execLookupLinkTransaction o bytes s) :=
  unlessReset_keepsQueue <| by split <;> simp

/-! ### Malformed words and LEASE_EXPIRY -/

theorem execMalformedGateWord_keepsQueue (l : Lane) (bytes : List Byte) :
    Result.KeepsQueue s (execMalformedGateWord l bytes s) :=
  unlessReset_keepsQueue <| by split <;> simp

theorem execLeaseExpiry_keepsQueue : Result.KeepsQueue s (execLeaseExpiry s) := by
  refine unlessReset_keepsQueue ?_
  split
  · split <;> simp
  · rfl

/-! ### The dispatch -/

/-- Every command answers a next state and keeps the queue: POWER_ON and RESET_LINE at once, the others by their effects. -/
theorem exec_keepsQueue (c : Instr) : Result.KeepsQueue s (exec c s) := by
  cases c with
  | powerOn => exact ⟨_, rfl, rfl⟩
  | resetLine held => exact ⟨_, rfl, rfl⟩
  | linkTransaction link opening bytes => exact execLinkTransaction_keepsQueue link opening bytes
  | loadReel lane tag gauge profile cadence => exact execLoadReel_keepsQueue lane tag gauge profile cadence
  | start lane => exact execStart_keepsQueue lane
  | pause lane => exact execPause_keepsQueue lane
  | resume lane => exact execResume_keepsQueue lane
  | unload lane => exact execUnload_keepsQueue lane
  | laneReset lane => exact execLaneReset_keepsQueue lane
  | setProfile number fields => exact execSetProfile_keepsQueue number fields
  | invalidateProfile number => exact execInvalidateProfile_keepsQueue number
  | readProfile number => exact execReadProfile_keepsQueue number
  | setLayout codes => exact execSetLayout_keepsQueue codes
  | setLookupLink enable order => exact execSetLookupLink_keepsQueue enable order
  | setPolicy lane kind enable route hold => exact execSetPolicy_keepsQueue lane kind enable route hold
  | setTimers tick limit lease => exact execSetTimers_keepsQueue tick limit lease
  | forceRelease slot => exact execForceRelease_keepsQueue slot
  | readLane lane => exact execReadLane_keepsQueue lane
  | resetPart => exact unlessReset_keepsQueue (act := State.partReset) rfl
  | take slot => exact execTake_keepsQueue slot
  | release slot => exact execRelease_keepsQueue slot
  | setGrade slot lift gain fade => exact execSetGrade_keepsQueue slot lift gain fade
  | setOffset slot along across => exact execSetOffset_keepsQueue slot along across
  | setLamp slot lamp => exact execSetLamp_keepsQueue slot lamp
  | setCadence slot cadence => exact execSetCadence_keepsQueue slot cadence
  | cut slot frame => exact execCut_keepsQueue slot frame
  | join slot => exact execJoin_keepsQueue slot
  | renew => exact execRenew_keepsQueue
  | regrade link slot => exact execRegrade_keepsQueue link slot
  | readSegment link slot => exact execReadSegment_keepsQueue link slot
  | listReel link lane position => exact execListReel_keepsQueue link lane position
  | readNotices link lane => exact execReadNotices_keepsQueue link lane
  | clearNotice link lane mask => exact execClearNotice_keepsQueue link lane mask
  | setLink link order => exact execSetLink_keepsQueue link order
  | lookupLinkTransaction opening bytes => exact execLookupLinkTransaction_keepsQueue opening bytes
  | lookup tag lane frame =>
    exact unlessReset_keepsQueue (act := (·.takeLookup tag lane frame)) (takeLookup_pending s tag lane frame)
  | summary lane frame black white mean =>
    exact unlessReset_keepsQueue (act := (·.takeSummary lane frame black white mean))
      (takeSummary_pending s lane frame black white mean)
  | perf lane position strength =>
    exact unlessReset_keepsQueue (act := (·.perfWord lane position strength)) (perfWord_pending s lane position strength)
  | splice lane position kind =>
    exact unlessReset_keepsQueue (act := (·.spliceWord lane position kind)) (spliceWord_pending s lane position kind)
  | travel lane position =>
    exact unlessReset_keepsQueue (act := (·.travelWord lane position)) (travelWord_pending s lane position)
  | runout lane position =>
    exact unlessReset_keepsQueue (act := (·.runoutWord lane position)) (runoutWord_pending s lane position)
  | malformedGateWord lane bytes => exact execMalformedGateWord_keepsQueue lane bytes
  | gradeCompletion => exact unlessReset_keepsQueue (complete_pending s)
  | deferralTick => exact unlessReset_keepsQueue (deferralTick_pending s)
  | deferralExpiry => exact unlessReset_keepsQueue (expire_pending s)
  | leaseTick => exact unlessReset_keepsQueue (leaseTick_pending s)
  | leaseExpiry => exact execLeaseExpiry_keepsQueue

end

/-- Settles O3: each command but POWER_ON and RESET_LINE is an effect behind the test of the RESET line, so it answers a next state, and no effect writes the queue. -/
theorem everyCommandAnswersNext : Obligations.EveryCommandAnswersNext := fun c _ => exec_keepsQueue c

end Sys2Proof.Machine
end
